-- ==== Sys2Proof/Word.lean ====
section
/-! DEFINITION. The word types of the link: bytes of a frame body and the 16-bit frame check (09 R164, R179). -/

namespace Sys2Proof

/-- One byte of a frame. -/
abbrev Byte := BitVec 8

/-- A frame check or a slot check: a CRC-16. -/
abbrev Word16 := BitVec 16

end Sys2Proof
end

