-- ==== Sys2Proof/Config.lean ====
section
/-! DEFINITION. What is fixed for one part, and the free values: constants with no body, of which no proof can know a value. -/

namespace Sys2Proof

/-- The serial number, fixed at manufacture (10 R190). No value is stated: free (log 14). -/
opaque Config.serial : BitVec 64

/-- Which protect bits an interrupted PROTECT or CLEAR PROTECT had already changed when NRST or power-off ended it
"where it stands" (08 R141). The spec states no value: free, a fresh one for each value of the counter (log 11). -/
opaque Config.protectReached : Nat → BitVec 24

end Sys2Proof
end

