-- ==== Sys2Proof/Syntax.lean ====
section
/-! DEFINITION. The commands of the block: one constructor per row of spec/opcode_table.json, and the frames they carry. -/

namespace Sys2Proof

/-- A frame as received: class, body and frame check. The length byte is the number of body bytes (09 R164, R179). -/
structure Frame where
  cls : Byte
  body : List Byte
  check : Word16
  deriving DecidableEq, Repr

/-- The two link ports (09 R162). -/
inductive Port where
  | sensor
  | controller
  deriving DecidableEq, Repr

/-- The rows of opcode_table.json. A row whose rule needs something from outside the part carries it as an operand:
the frame that arrives, the level of a line, what the non-volatile memory gives back. The 35 command rows carry none:
each is the taking of the command in the decoder's hand (10 R182; log 2). -/
inductive Instr where
  /-- POWER_ON (R140): the levels of NRST, WP and LOCKEN and the address straps as power is applied. -/
  | powerOn (nrst wp locken : Bool) (addr : BitVec 6)
  /-- NRST_LOW (R89). -/
  | nrstLow
  /-- NRST_RISE (R140): the straps as re-read. -/
  | nrstRise (locken : Bool) (addr : BitVec 6)
  /-- POWER_ON_SCAN_DONE (R140): bit n set when slot n's memory has changed since it was written (R138). -/
  | powerOnScanDone (changed : BitVec 24)
  /-- SAMPLE_FRAME (R167): the body and frame check of the SAMPLE frame that arrives. -/
  | sampleFrame (body : List Byte) (check : Word16)
  /-- FORWARD_FRAME (R165): a frame of another class on the forward lane. -/
  | forwardFrame (f : Frame)
  /-- COMMAND_FRAME (R171): the body and frame check of the COMMAND frame that arrives. -/
  | commandFrame (body : List Byte) (check : Word16)
  /-- RETURN_FRAME (R165): a frame of another class on the return lane. -/
  | returnFrame (f : Frame)
  /-- TRANSMIT_FRAME (R173). -/
  | transmitFrame
  /-- DROP_REPORT (R132). -/
  | dropReport
  /-- IDLE_PATTERN_SEEN (R162). -/
  | idlePatternSeen (p : Port)
  /-- TRAINING_COMPLETE (R162). -/
  | trainingComplete (p : Port)
  /-- TRAINING_LOST (R162). -/
  | trainingLost (p : Port)
  /-- SENSOR_PORT_LOSS (R177): was a frame arriving, and was one being passed through. -/
  | sensorPortLoss (arriving passing : Bool)
  /-- CONTROLLER_PORT_LOSS (R176): was a frame arriving. -/
  | controllerPortLoss (arriving : Bool)
  /-- STALL (R45): the stall timer runs out. -/
  | stall
  /-- TOO_LONG (R46): a SAMPLE frame whose handling finds the count over the limit (log 6). -/
  | tooLong (body : List Byte) (check : Word16)
  /-- CAPTURE_FREEZE (R112): a SAMPLE frame whose recording brings the countdown to 0 (log 6). -/
  | captureFreeze (body : List Byte) (check : Word16)
  /-- COMMIT_DONE (R149): did the memory take the image whole. -/
  | commitDone (took : Bool)
  /-- ERASE_DONE (R150): did the memory take the erase whole. -/
  | eraseDone (took : Bool)
  /-- PROTECT_DONE (R154): the protect bits as read back. -/
  | protectDone (readBack : BitVec 24)
  /-- CLEAR_PROTECT_DONE (R154): the protect bits as read back. -/
  | clearProtectDone (readBack : BitVec 24)
  /-- EDIT_LOAD_DONE (R146): is the slot's memory unchanged since it was written. -/
  | editLoadDone (intact : Bool)
  /-- ACTIVE_LOAD_DONE (R159): is the slot's memory unchanged since it was written. -/
  | activeLoadDone (intact : Bool)
  /-- STAGED_LOAD_DONE (R160): is the slot's memory unchanged since it was written. -/
  | stagedLoadDone (intact : Bool)
  /-- WP_FALL (R153). -/
  | wpFall
  | arm
  | disarm
  | resume
  | clearStop
  | editClear
  | editLoad
  | setHeader
  | putGroup
  | putPins
  | setCounts
  | validate
  | commit
  | erase
  | readEdit
  | readDirectory
  | lockRange
  | lockTight
  /-- PROTECT (R154): the level of SVC when the command is taken. -/
  | protect (svc : Bool)
  /-- CLEAR_PROTECT (R154): the level of SVC when the command is taken. -/
  | clearProtect (svc : Bool)
  | select
  | readVerdicts
  | setTrigger
  | readTriggers
  | clearHits
  | captureNow
  | releaseCapture
  | readCapture
  | readRecord
  | readPending
  | clearPending
  | readStatus
  | readIdent
  | getSetting
  | setSetting
  | resetUnit
  /-- WP_RISE (R153). -/
  | wpRise
  /-- POWER_OFF (R141). -/
  | powerOff
  /-- CONTROLLER_PORT_BAD_FRAME (R164): the frame that arrives bad at the controller port. -/
  | controllerPortBadFrame (f : Frame)
  /-- FRAME_SENT (R173). -/
  | frameSent
  deriving DecidableEq, Repr

end Sys2Proof
end

