-- ==== Sys2Proof/WellFormed.lean ====
section
/-! DEFINITION. Which operands a row admits: a body that the length byte can count (09 R164), and a class that fits the row (R165). -/

namespace Sys2Proof

/-- The length byte counts 0-255 body bytes (R164). -/
def bodyFits (body : List Byte) : Bool := decide (body.length ≤ 255)

/-- The operands of a row are well formed. -/
def Instr.wellFormed : Instr → Bool
  | .sampleFrame body _ => bodyFits body
  | .commandFrame body _ => bodyFits body
  | .tooLong body _ => bodyFits body
  | .captureFreeze body _ => bodyFits body
  | .forwardFrame f => bodyFits f.body && decide (f.cls ≠ 0x01#8)
  | .returnFrame f => bodyFits f.body && decide (f.cls ≠ 0x02#8)
  | .controllerPortBadFrame f => bodyFits f.body
  | .powerOn _ _ _ _ | .nrstLow | .nrstRise _ _ | .powerOnScanDone _ | .transmitFrame | .dropReport
  | .idlePatternSeen _ | .trainingComplete _ | .trainingLost _ | .sensorPortLoss _ _ | .controllerPortLoss _
  | .stall | .commitDone _ | .eraseDone _ | .protectDone _ | .clearProtectDone _ | .editLoadDone _
  | .activeLoadDone _ | .stagedLoadDone _ | .wpFall | .arm | .disarm | .resume | .clearStop | .editClear
  | .editLoad | .setHeader | .putGroup | .putPins | .setCounts | .validate | .commit | .erase | .readEdit
  | .readDirectory | .lockRange | .lockTight | .protect _ | .clearProtect _ | .select | .readVerdicts
  | .setTrigger | .readTriggers | .clearHits | .captureNow | .releaseCapture | .readCapture | .readRecord
  | .readPending | .clearPending | .readStatus | .readIdent | .getSetting | .setSetting | .resetUnit
  | .wpRise | .powerOff | .frameSent => true

end Sys2Proof
end

