-- ==== Sys2Proof/Machine/State.lean ====
section
/-! DEFINITION. The state of the part, block by block (00_scope.md), as plain data; each field's default is its value after power-on. -/

namespace Sys2Proof.Machine

/-! ### Profiles (01 R1, R2, R7, R11, R15) -/

/-- The header of a profile (R2); a field's default is its cleared value. -/
structure Header where
  profileId : Nat := 0
  channelCount : Nat := 0
  contactDepth : Nat := 0
  seatMin : Nat := 0
  seatMax : Nat := 0
  seatForce : Nat := 393204
  crushLimit : Nat := 32767
  backlash : Nat := 0
  gapTolerance : Nat := 0
  minSamples : Nat := 0
  floor : Nat := 0
  groupCount : Nat := 0
  pinCount : Nat := 0
  deriving DecidableEq, Repr

/-- A group record (R7); bit n of `channels` is channel n. -/
structure GroupRec where
  start : Nat := 0
  length : Nat := 0
  channels : BitVec 16 := 0
  perPinMin : Nat := 0
  perPinMax : Nat := 0
  deriving DecidableEq, Repr

/-- A pin's assignment (R11). -/
inductive Assignment where
  | group (g : Nat)
  | excluded
  deriving DecidableEq, Repr

/-- A pin record (R11). -/
structure PinRec where
  row : Nat := 0
  col : Nat := 0
  assign : Assignment := .group 127
  deriving DecidableEq, Repr

/-- A profile image (R1). -/
structure Image where
  header : Header
  groups : List GroupRec
  pins : List PinRec
  deriving DecidableEq, Repr

/-- The edit buffer emptied (R15, 08 R142): 96 group records and 640 pin records. -/
def Image.cleared : Image := { header := {}, groups := List.replicate 96 {}, pins := List.replicate 640 {} }

/-! ### Stroke sequencer (02 R24) -/

/-- The phases (R24). -/
inductive Phase where
  | idle | armed | approach | engage | seating | held | retract | aborted
  deriving DecidableEq, Repr

/-- The abort reasons (R49). -/
inductive AbortReason where
  | crush | overtravel | earlySeat | stall | sensorLink | creep | pinFail | reversal | tare | tooLong | disarm
  deriving DecidableEq, Repr

/-- A tare entry (R32). -/
structure TareEntry where
  depth : Nat
  raw : List Int
  deriving DecidableEq, Repr

/-- The stroke sequencer's state (R24). -/
structure SeqState where
  phase : Phase := .idle
  strokeNumber : Nat := 0
  tag : Option (List Byte) := none
  highWater : Nat := 0
  heldFrom : Option Phase := none
  holdDepth : Option Nat := none
  rePress : Bool := false
  tareRing : List TareEntry := []
  baselines : List Int := List.replicate 12 0
  contact : Bool := false
  peak : Option Int := none
  stallTimer : Option Nat := none
  sampleCount : Nat := 0
  deriving DecidableEq, Repr

/-! ### Window engine (03 R52) -/

/-- The verdicts (R70). -/
inductive Verdict where
  | untested | pass | low | high | noEngage | noData | aborted | excluded
  deriving DecidableEq, Repr

/-- A window entry (R53). -/
structure WinEntry where
  group : Nat
  l0 : Int
  peak : Int
  count : Nat
  interrupted : Bool
  deriving DecidableEq, Repr

/-- An entry of the verdict map (R70). -/
structure MapEntry where
  verdict : Verdict
  estimate : Option Nat
  deriving DecidableEq, Repr

/-- A failing entry (R68). -/
structure FailEntry where
  pin : Nat
  row : Nat
  col : Nat
  verdict : Verdict
  estimate : Option Nat
  deriving DecidableEq, Repr

/-- The window engine's state (R52). -/
structure WinState where
  openSet : List WinEntry := []
  cursor : Nat := 0
  map : List MapEntry := []
  failTotal : Nat := 0
  failList : List FailEntry := []
  deriving DecidableEq, Repr

/-! ### Line driver (04 R76) -/

/-- The line driver's state (R76). -/
structure LineState where
  stop : Bool := false
  hold : Bool := false
  deriving DecidableEq, Repr

/-! ### Trigger unit (05 R90, R91) -/

/-- The kind of a trigger entry; channel and level are present for FORCE only (R91). -/
inductive TrigKind where
  | depth
  | force (channel : Nat) (level : Int)
  | verdict
  deriving DecidableEq, Repr

/-- A set of the three actions (R91). -/
structure Actions where
  capture : Bool := false
  hold : Bool := false
  mark : Bool := false
  deriving DecidableEq, Repr

/-- A trigger entry with its hit and suppress flags (R90, R91). -/
structure Trigger where
  kind : TrigKind := .depth
  spanCode : Nat := 0
  base : Nat := 0
  actions : Actions := {}
  enable : Bool := false
  hit : Bool := false
  suppress : Bool := false
  deriving DecidableEq, Repr

/-! ### Capture unit (06 R107) -/

/-- The capture states (R107). -/
inductive CaptureState where
  | idle | counting | frozen
  deriving DecidableEq, Repr

/-- A history entry (R108). -/
structure HistEntry where
  seq : Byte
  depth : Nat
  raw : List Int
  overrange : BitVec 12
  phase : Phase
  deriving DecidableEq, Repr

/-- The capture unit's state (R107); the valid count is the length of the ring. -/
structure CapState where
  ring : List HistEntry := []
  state : CaptureState := .idle
  countdown : Nat := 0
  trigPos : Option Nat := none
  trigOffset : Option Nat := none
  missed : Nat := 0
  deriving DecidableEq, Repr

/-! ### Record unit (07 R120) -/

/-- The outcome of a stroke (R123); NONE is the absence of one. -/
inductive StrokeOutcome where
  | pass | fail | abort
  deriving DecidableEq, Repr

/-- The seven verdict counts (R122). -/
structure VerdictCounts where
  pass : Nat
  low : Nat
  high : Nat
  noEngage : Nat
  noData : Nat
  aborted : Nat
  excluded : Nat
  deriving DecidableEq, Repr

/-- A stroke record (R122). -/
structure StrokeRecord where
  strokeNumber : Nat
  tag : Option (List Byte)
  slot : Nat
  profileId : Nat
  outcome : StrokeOutcome
  reason : Option AbortReason
  seatDepth : Option Nat
  peak : Option Int
  counts : VerdictCounts
  failTotal : Nat
  failList : List FailEntry
  missing : Nat
  stale : Nat
  sampleCount : Nat
  deriving DecidableEq, Repr

/-- The record unit's state (R120). -/
structure RcdState where
  history : List StrokeRecord := []
  last : Option StrokeOutcome := none
  previous : Option StrokeOutcome := none
  deriving DecidableEq, Repr

/-! ### Event unit (07 R128, R129) -/

/-- The nineteen causes, in priority order (R129). -/
inductive Cause where
  | crush | overtravel | earlySeat | stall | sensorLink | creep | pinFail | reversal | tare | tooLong
  | strokeFail | hold | strokePass | captureDone | profileFault | nvDone | controllerLink | drop | stale
  deriving DecidableEq, Repr

/-- A set of causes: bit n - 1 is cause n (10 R186). -/
abbrev CauseSet := BitVec 19

/-- The detail item of a raising (R129). -/
inductive Detail where
  | absent
  | channel (c : Nat)
  | depth (d : Nat)
  | slot (n : Nat)
  | nv (slot : Option Nat) (ok : Bool)
  | count (n : Nat)
  deriving DecidableEq, Repr

/-- The alarm modes (04 R84). -/
inductive AlarmMode where
  | pending | safety
  deriving DecidableEq, Repr

/-- What an owed DROP event frame says of the raising it reports: the stroke number and the latest depth as DROP was raised
(R131, R132). -/
structure DropItems where
  strokeNumber : Nat
  depth : Nat
  deriving DecidableEq, Repr

/-- The event unit's state (R128); causes 1-11 are bits 0-10. The drop report owed flag is set while `dropOwed` holds the
items of the frame owed (log 18). -/
structure EvtState where
  pending : CauseSet := 0
  eventMask : CauseSet := 0x7FFFF#19
  alarmMode : AlarmMode := .pending
  alarmMask : CauseSet := 0x7FF#19
  dropOwed : Option DropItems := none
  deriving DecidableEq, Repr

/-! ### The link (09) -/

/-- The port states (R162). -/
inductive PortState where
  | down | training | up
  deriving DecidableEq, Repr

/-- The sensor port receiver's state (R166). -/
structure SnsState where
  port : PortState := .down
  expected : Option Byte := none
  missing : Nat := 0
  stale : Nat := 0
  latestDepth : Nat := 0
  bad : Nat := 0
  deriving DecidableEq, Repr

/-- A consumed command: its tag, command byte and argument bytes (R180, 10 R183). -/
structure Command where
  tag : Byte
  number : Byte
  args : List Byte
  deriving DecidableEq, Repr

/-- The controller port receiver's state (R162, R164, R172). -/
structure CtlState where
  port : PortState := .down
  bad : Nat := 0
  waitList : List Command := []
  deriving DecidableEq, Repr

/-- The result codes (R179, 10 R185). -/
inductive Result where
  | ok | unknown | range | state | busy | stopped | noProfile | locked | slotProtected | service | inUse | invalid
  | empty | corrupt
  deriving DecidableEq, Repr

/-- The items of a verdict frame (07 R125). -/
structure VerdictItems where
  strokeNumber : Nat
  outcome : StrokeOutcome
  reason : Option AbortReason
  counts : VerdictCounts
  failTotal : Nat
  first : Option FailEntry
  deriving DecidableEq, Repr

/-- An inserted frame by its items; `Inserted.frame` lays them out in bytes (R179-R181). -/
inductive Inserted where
  | response (tag number : Byte) (result : Result) (data : List Byte)
  | verdict (v : VerdictItems)
  | event (cause : Cause) (strokeNumber depth : Nat) (detail : Detail)
  deriving DecidableEq, Repr

/-- What the outgoing lane of the controller port is sending (R173). -/
inductive Outgoing where
  | forwarded (f : Frame)
  | inserted (i : Inserted)
  deriving DecidableEq, Repr

/-- The controller port transmitter's state (R173). `ctlTx` (frames sent whole, in bytes), `created` and `sent` (the ledger of
R175) are the model's own (log 12). -/
structure TxState where
  queue : List Inserted := []
  drop : Nat := 0
  fwd : List Frame := []
  lane : Option Outgoing := none
  created : Nat := 0
  sent : Nat := 0
  ctlTx : List (List Byte) := []
  deriving DecidableEq, Repr

/-! ### Profile store and loader (08) -/

/-- What a non-volatile slot holds (R138): nothing, an image with its stored check value, or the rest of a write or an
erase cut short or of changed memory, which fails every check. -/
inductive SlotContent where
  | erased
  | image (img : Image) (check : Word16)
  | broken
  deriving DecidableEq, Repr

/-- A directory entry's state (R139); profile id, group count and pin count stand for VALID only. -/
inductive SlotState where
  | empty
  | valid (profileId groupCount pinCount : Nat)
  | corrupt
  | writing
  deriving DecidableEq, Repr

/-- A running non-volatile operation (R141). -/
inductive NvOp where
  | commit (slot : Nat)
  | erase (slot : Nat)
  | protect (slot : Nat)
  | clearProtect
  | editLoad (slot : Nat)
  deriving DecidableEq, Repr

/-- The profile store's state (R138-R142, R151, R152); NV busy is `nvOp` being present. -/
structure StoreState where
  slots : List SlotContent := List.replicate 24 .erased
  protect : BitVec 24 := 0
  directory : List SlotState := List.replicate 24 .empty
  buffer : Image := Image.cleared
  lockLower : Nat := 0
  lockUpper : Nat := 23
  invert : Bool := false
  lockTight : Bool := false
  nvOp : Option NvOp := none
  scanRunning : Bool := true
  deriving DecidableEq, Repr

/-- A set of working tables (R157). -/
inductive Tables where
  | absent
  | loading
  | ready (img : Image)
  deriving DecidableEq, Repr

/-- The profile loader's state (R157). -/
structure LoadState where
  active : Tables := .absent
  activeSlot : Option Nat := none
  stale : Bool := false
  staged : Tables := .absent
  stagedSlot : Option Nat := none
  swapPending : Bool := false
  deriving DecidableEq, Repr

/-! ### Command decoder (10 R182, R186) -/

/-- The command decoder's state: the command in hand and seven of the ten settings (R182, R186). -/
structure DecState where
  hand : Option Command := none
  unitMask : BitVec 6 := 63#6
  stallTimeout : Nat := 20
  strokeLimit : Nat := 256
  stepMode : Bool := false
  stopOnFail : Bool := false
  postCount : Nat := 256
  annotation : Bool := true
  deriving DecidableEq, Repr

/-! ### The part -/

/-- The state of the part: the terminals as they stand or were last read, the thirteen blocks, the return lane's output,
the counter of free values and the queue of waiting commands. -/
structure State where
  powered : Bool := true
  nrstHigh : Bool := true
  wpHigh : Bool := true
  lockenHigh : Bool := false
  unitAddr : BitVec 6 := 0
  seq : SeqState := {}
  win : WinState := {}
  line : LineState := {}
  trig : List Trigger := List.replicate 4 {}
  cap : CapState := {}
  rcd : RcdState := {}
  evt : EvtState := {}
  sns : SnsState := {}
  ctl : CtlState := {}
  tx : TxState := {}
  store : StoreState := {}
  load : LoadState := {}
  dec : DecState := {}
  snsTx : List (List Byte) := []
  freeIdx : Nat := 0
  pending : List Instr := []
  deriving DecidableEq, Repr

/-- The part right after power-on, the scan running (08 R140; the levels of the terminals: log 8; the non-volatile
contents: log 7). -/
def State.reset : State := {}

/-- No command of this part stops it with a fault: the kind has no member. -/
inductive Fault where
  deriving DecidableEq, Repr

/-- The refusals of the model. -/
inductive Refusal where
  /-- Raised only by an arm of `exec` whose command has no meaning yet; safe: nothing is claimed of it. -/
  | notModelled (mnemonic : String)
  deriving DecidableEq, Repr

end Sys2Proof.Machine
end

