-- ==== Sys2Proof/Machine/Flags.lean ====
section
/-! DEFINITION. Codes, cause sets, and every condition computed from the state: forces, line levels, slot and phase conditions. -/

namespace Sys2Proof.Machine

/-! ### Codes (09 R179, 10 R189) -/

def Phase.code : Phase → Nat
  | .idle => 0 | .armed => 1 | .approach => 2 | .engage => 3 | .seating => 4 | .held => 5 | .retract => 6
  | .aborted => 7

def Verdict.code : Verdict → Nat
  | .untested => 0 | .pass => 1 | .low => 2 | .high => 3 | .noEngage => 4 | .noData => 5 | .aborted => 6
  | .excluded => 7

/-- 0 is NONE (R179). -/
def StrokeOutcome.code : Option StrokeOutcome → Nat
  | none => 0 | some .pass => 1 | some .fail => 2 | some .abort => 3

def AbortReason.number : AbortReason → Nat
  | .crush => 1 | .overtravel => 2 | .earlySeat => 3 | .stall => 4 | .sensorLink => 5 | .creep => 6 | .pinFail => 7
  | .reversal => 8 | .tare => 9 | .tooLong => 10 | .disarm => 11

/-- 0 is absent (R179). -/
def AbortReason.code : Option AbortReason → Nat
  | none => 0 | some r => r.number

/-- A cause's priority, which is its code (07 R129). -/
def Cause.code : Cause → Nat
  | .crush => 1 | .overtravel => 2 | .earlySeat => 3 | .stall => 4 | .sensorLink => 5 | .creep => 6 | .pinFail => 7
  | .reversal => 8 | .tare => 9 | .tooLong => 10 | .strokeFail => 11 | .hold => 12 | .strokePass => 13
  | .captureDone => 14 | .profileFault => 15 | .nvDone => 16 | .controllerLink => 17 | .drop => 18 | .stale => 19

def Result.code : Result → Nat
  | .ok => 0 | .unknown => 1 | .range => 2 | .state => 3 | .busy => 4 | .stopped => 5 | .noProfile => 6 | .locked => 7
  | .slotProtected => 8 | .service => 9 | .inUse => 10 | .invalid => 11 | .empty => 12 | .corrupt => 13

def PortState.code : PortState → Nat
  | .down => 0 | .training => 1 | .up => 2

def CaptureState.code : CaptureState → Nat
  | .idle => 0 | .counting => 1 | .frozen => 2

def Tables.code : Tables → Nat
  | .absent => 0 | .loading => 1 | .ready _ => 2

/-- The coded choice of a flag: 1 set, 0 clear. -/
def flag (b : Bool) : Nat := if b then 1 else 0

/-! ### Sets of causes (07 R128, R129, R133) -/

/-- The set that holds one cause. -/
def Cause.single (c : Cause) : CauseSet := BitVec.twoPow 19 (c.code - 1)

def CauseSet.has (m : CauseSet) (c : Cause) : Bool := m.getLsbD (c.code - 1)
def CauseSet.with (m : CauseSet) (c : Cause) : CauseSet := m ||| c.single
def CauseSet.without (m : CauseSet) (c : Cause) : CauseSet := m &&& ~~~c.single

/-- The causes in priority order, 1 highest (R129). -/
def Cause.all : List Cause :=
  [.crush, .overtravel, .earlySeat, .stall, .sensorLink, .creep, .pinFail, .reversal, .tare, .tooLong,
   .strokeFail, .hold, .strokePass, .captureDone, .profileFault, .nvDone, .controllerLink, .drop, .stale]

/-- The members in priority order. -/
def CauseSet.members (m : CauseSet) : List Cause := Cause.all.filter (CauseSet.has m)

/-- How many causes are pending (R133, R134, 10 R189). -/
def CauseSet.size (m : CauseSet) : Nat := (CauseSet.members m).length

/-- The cause an abort raises: it bears the reason's name; DISARM has none (02 R49, 07 R129). -/
def AbortReason.cause : AbortReason → Option Cause
  | .crush => some .crush | .overtravel => some .overtravel | .earlySeat => some .earlySeat | .stall => some .stall
  | .sensorLink => some .sensorLink | .creep => some .creep | .pinFail => some .pinFail | .reversal => some .reversal
  | .tare => some .tare | .tooLong => some .tooLong | .disarm => none

/-- Which reasons set the stop latch (02 R49, 04 R77). -/
def AbortReason.latches : AbortReason → Bool
  | .crush | .overtravel | .earlySeat | .stall | .sensorLink | .creep | .pinFail => true
  | .reversal | .tare | .tooLong | .disarm => false

/-! ### Phases -/

/-- The phases of a running stroke: those in which samples are counted and aborts happen (02 R29, R48). -/
def Phase.inStroke : Phase → Bool
  | .approach | .engage | .seating | .held => true
  | .idle | .armed | .retract | .aborted => false

/-! ### Forces (03 R55-R57) -/

/-- A value clamped to -32,768 to 32,767 (R56). -/
def clamp16 (v : Int) : Int := max (-32768) (min 32767 v)

/-- The net forces of the twelve channels: raw less baseline, clamped (R56). -/
def netForces (baselines raw : List Int) : List Int := List.zipWith (fun r b => clamp16 (r - b)) raw baselines

/-- The sum of the values whose index, counted from `i`, is in `inSet`, each counted once. -/
def sumFrom (inSet : Nat → Bool) : Nat → List Int → Int
  | _, [] => 0
  | i, v :: vs => (if inSet i then v else 0) + sumFrom inSet (i + 1) vs

/-- The group sum over a channel set (R57). -/
def groupSum (channels : BitVec 16) (net : List Int) : Int := sumFrom (fun c => channels.getLsbD c) 0 net

/-- The seat sum over channels 0 to channel count - 1 (R57). -/
def seatSum (channelCount : Nat) (net : List Int) : Int := sumFrom (fun c => decide (c < channelCount)) 0 net

/-- The index of the first element that satisfies `p`. -/
def firstIndex {α : Type} (p : α → Bool) : List α → Option Nat
  | [] => none
  | a :: as => if p a then some 0 else (firstIndex p as).map (· + 1)

/-- One channel's baseline: the floor of the mean of its raw readings over the tare ring (R55). Integer division by the
positive number of entries rounds toward minus infinity. -/
def baselineOf (ring : List TareEntry) (c : Nat) : Int :=
  (ring.map fun e => e.raw.getD c 0).sum / (ring.length : Int)

/-- The twelve baselines: those of channels 0 to channel count - 1, and 0 above (R55). -/
def baselinesOf (channelCount : Nat) (ring : List TareEntry) : List Int :=
  (List.range 12).map fun c => if c < channelCount then baselineOf ring c else 0

/-! ### The profile (01 R7, R14) -/

/-- The window end: start plus length, exact (R7). -/
def GroupRec.windowEnd (g : GroupRec) : Nat := g.start + g.length

/-- The number of pins assigned to group g (R14). -/
def groupPins (pins : List PinRec) (g : Nat) : Nat := (pins.filter fun p => p.assign == .group g).length

/-- The profile of the active tables; read only while they are READY (02 R26, R27; log 28). -/
def State.profile (s : State) : Image :=
  match s.load.active with
  | .ready img => img
  | .absent | .loading => { header := {}, groups := [], pins := [] }

/-! ### Lines (04 R78, R83-R85, R89) -/

/-- The part runs: powered and not held in reset by NRST (00_scope.md; R89). -/
def State.live (s : State) : Bool := s.powered && s.nrstHigh

/-- ALARM is asserted (R84, R85). -/
def State.alarm (s : State) : Bool :=
  match s.evt.alarmMode with
  | .pending => decide (s.evt.pending &&& s.evt.alarmMask ≠ 0)
  | .safety => s.line.stop

/-- The level of STOP: asserted is low; low too while NRST is low or the part is unpowered (R89). -/
def State.stopLevel (s : State) : Bool := s.live && !s.line.stop

/-- The level of HOLD: asserted is high; low while NRST is low (R89). An unpowered part drives no level (log 19). -/
def State.holdLevel (s : State) : Option Bool := if s.powered then some (s.nrstHigh && s.line.hold) else none

/-- The level of ALARM: asserted is low; high while NRST is low (R89). An unpowered part drives no level (log 19). -/
def State.alarmLevel (s : State) : Option Bool := if s.powered then some (!(s.nrstHigh && s.alarm)) else none

/-! ### Profile store (08 R141, R148, R151) -/

/-- NV busy (R141). -/
def State.nvBusy (s : State) : Bool := s.store.nvOp.isSome

/-- An EDIT LOAD is running (R143). -/
def State.editLoading (s : State) : Bool :=
  match s.store.nvOp with
  | some (.editLoad _) => true
  | _ => false

/-- The buffer may not be changed: an EDIT LOAD or a COMMIT is running (R143). -/
def State.bufferHeld (s : State) : Bool :=
  match s.store.nvOp with
  | some (.editLoad _) | some (.commit _) => true
  | _ => false

/-- The slot lies in the unlocked set (R151). -/
def State.unlocked (s : State) (slot : Nat) : Bool :=
  if s.store.invert then decide (slot < s.store.lockLower) || decide (s.store.lockUpper < slot)
  else decide (s.store.lockLower ≤ slot) && decide (slot ≤ s.store.lockUpper)

/-- The slot is in use (R148). -/
def State.inUse (s : State) (slot : Nat) : Bool :=
  (s.load.stagedSlot == some slot && s.load.staged != .absent)
  || (s.load.activeSlot == some slot && s.seq.phase != .idle)
  || (s.load.activeSlot == some slot && s.load.active == .loading)

/-- The slot is the active slot, in IDLE, with READY tables: writing it makes them stale (R148, R161). -/
def State.makesStale (s : State) (slot : Nat) : Bool :=
  s.load.activeSlot == some slot && s.seq.phase == .idle && s.load.active.code == 2

end Sys2Proof.Machine
end

