-- ==== Sys2Proof/Machine/Operands.lean ====
section
/-! DEFINITION. Bytes and frames: the CRC, the layouts of the frames the part reads and creates (09 R164, R179-R181), and
the argument forms of the 35 commands (10 R183, R184). -/

namespace Sys2Proof.Machine

/-! ### Bytes, most significant first (R179) -/

/-- The low `n` bytes of a number. -/
def beBytes : Nat → Nat → List Byte
  | 0, _ => []
  | n + 1, v => BitVec.ofNat 8 (v >>> (8 * n)) :: beBytes n v

/-- The number a byte string spells. -/
def beNat (bs : List Byte) : Nat := bs.foldl (fun acc b => acc * 256 + b.toNat) 0

/-- The low `n` bytes of a two's complement number. -/
def beInt (n : Nat) (v : Int) : List Byte := beBytes n (v % (2 ^ (8 * n) : Nat)).toNat

/-- A 16-bit two's complement number. -/
def signed16 (n : Nat) : Int := if n < 32768 then (n : Int) else (n : Int) - 65536

/-- Byte `i` of a body. -/
def byteAt (bs : List Byte) (i : Nat) : Nat := (bs.getD i 0).toNat

/-! ### The frame check (R164) -/

/-- One bit of the CRC with polynomial x^16 + x^12 + x^5 + 1. -/
def crcBit (c : Word16) : Word16 := if c.msb then (c <<< 1) ^^^ 0x1021#16 else c <<< 1

/-- One byte of the CRC, most significant bit first (R179). -/
def crcByte (c : Word16) (b : Byte) : Word16 := Nat.repeat crcBit 8 (c ^^^ (b.zeroExtend 16 <<< 8))

/-- The CRC-16 with initial value FFFFh and no final inversion (R164, R179). -/
def crc16 (bs : List Byte) : Word16 := bs.foldl crcByte 0xFFFF#16

/-- Bytes 0 to length + 1 of a frame: class, length byte, body (R179). -/
def frameHead (cls : Byte) (body : List Byte) : List Byte := cls :: BitVec.ofNat 8 body.length :: body

/-- The check of a frame, over its bytes 0 to length + 1 (R164, R179). -/
def frameCheck (cls : Byte) (body : List Byte) : Word16 := crc16 (frameHead cls body)

/-- A frame as its bytes on a lane: class, length, body, and the check, most significant byte first (R179). -/
def frameBytes (f : Frame) : List Byte := frameHead f.cls f.body ++ beBytes 2 f.check.toNat

/-- The frame with its check computed. -/
def mkFrame (cls : Byte) (body : List Byte) : Frame := { cls := cls, body := body, check := frameCheck cls body }

/-- A frame on the forward lane is bad: wrong check, a length no byte can count (log 26), or a SAMPLE whose length is not
31 (R164). -/
def badForward (f : Frame) : Bool :=
  decide (255 < f.body.length) || decide (frameCheck f.cls f.body ≠ f.check)
  || (decide (f.cls = 0x01#8) && decide (f.body.length ≠ 31))

/-- A frame on the return lane is bad: wrong check, a length no byte can count, or a COMMAND of less than 3 or more than
27 body bytes (R164). -/
def badReturn (f : Frame) : Bool :=
  decide (255 < f.body.length) || decide (frameCheck f.cls f.body ≠ f.check)
  || (decide (f.cls = 0x02#8) && (decide (f.body.length < 3) || decide (27 < f.body.length)))

/-! ### SAMPLE and COMMAND bodies (R180) -/

/-- A sample: what the body of a SAMPLE frame carries besides the annotation (R180). -/
structure Sample where
  seq : Byte
  overrange : BitVec 12
  depth : Nat
  raw : List Int
  deriving DecidableEq, Repr

/-- Signed two-byte values, in order. -/
def signedPairs : List Byte → List Int
  | a :: b :: rest => signed16 (a.toNat * 256 + b.toNat) :: signedPairs rest
  | _ => []

/-- Reading a SAMPLE body (R180): overrange bits 15-12 are not read. -/
def readSample (body : List Byte) : Sample :=
  { seq := body.getD 0 0
    overrange := BitVec.ofNat 12 (byteAt body 1 * 256 + byteAt body 2)
    depth := byteAt body 3 * 256 + byteAt body 4
    raw := signedPairs ((body.drop 5).take 24) }

/-- The mark bits of trigger entries 0-3, entry 0 lowest (R180). -/
def markBits : List Bool → Nat
  | [] => 0
  | m :: ms => flag m + 2 * markBits ms

/-- The two annotation bytes: annotated flag set, phase, stop, hold, marks and open-window count (R170, R180). -/
def annotationBytes (phase : Phase) (stop hold : Bool) (marks : List Bool) (openCount : Nat) : List Byte :=
  [BitVec.ofNat 8 (128 + 16 * phase.code + 8 * flag stop + 4 * flag hold),
   BitVec.ofNat 8 (16 * markBits marks + openCount)]

/-- The destination of a COMMAND body: bits 5-0 of byte 0 (R180). -/
def commandDest (body : List Byte) : BitVec 6 := BitVec.ofNat 6 (byteAt body 0)

/-- Tag, command byte and arguments of a COMMAND body (R180). -/
def readCommand (body : List Byte) : Command :=
  { tag := body.getD 1 0, number := body.getD 2 0, args := body.drop 3 }

/-! ### Frames the part creates (R179-R181) -/

/-- A verdict word: verdict code, presence of the estimate, estimate (R179). -/
def verdictWord (v : Verdict) (estimate : Option Nat) : List Byte :=
  beBytes 3 (v.code * 2 ^ 21 + flag estimate.isSome * 2 ^ 20 + estimate.getD 0)

/-- A failing entry: pin index, label, verdict word (R181). -/
def failBytes (e : FailEntry) : List Byte :=
  beBytes 2 e.pin ++ beBytes 1 e.row ++ beBytes 1 e.col ++ verdictWord e.verdict e.estimate

/-- The seven verdict counts, two bytes each (R181). -/
def countsBytes (c : VerdictCounts) : List Byte :=
  beBytes 2 c.pass ++ beBytes 2 c.low ++ beBytes 2 c.high ++ beBytes 2 c.noEngage ++ beBytes 2 c.noData
  ++ beBytes 2 c.aborted ++ beBytes 2 c.excluded

/-- The body of a verdict frame, 30 bytes (R181). -/
def verdictBody (v : VerdictItems) : List Byte :=
  beBytes 4 v.strokeNumber ++ beBytes 1 (StrokeOutcome.code (some v.outcome)) ++ beBytes 1 (AbortReason.code v.reason)
  ++ countsBytes v.counts ++ beBytes 2 v.failTotal
  ++ (match v.first with
      | some e => beBytes 1 1 ++ failBytes e
      | none => beBytes 1 0 ++ List.replicate 7 0)

/-- The detail bytes of an event frame (R181): the STALE count is held at 16,777,215. -/
def detailBytes : Detail → List Byte
  | .absent => [0xFF#8, 0xFF#8, 0xFF#8]
  | .channel c => [0, 0, BitVec.ofNat 8 c]
  | .depth d => 0 :: beBytes 2 d
  | .slot n => [0, 0, BitVec.ofNat 8 n]
  | .nv slot ok => [BitVec.ofNat 8 (slot.getD 255), 0, BitVec.ofNat 8 (flag (!ok))]
  | .count n => beBytes 3 (min n 16777215)

/-- The frame an inserted item is sent as (R179-R181). -/
def Inserted.frame : Inserted → Frame
  | .response tag number result data => mkFrame 0x03#8 (tag :: number :: BitVec.ofNat 8 result.code :: data)
  | .verdict v => mkFrame 0x04#8 (verdictBody v)
  | .event cause stroke depth detail =>
    mkFrame 0x05#8 (beBytes 1 cause.code ++ beBytes 4 stroke ++ beBytes 2 depth ++ detailBytes detail)

/-- The frame on the outgoing lane (R173). -/
def Outgoing.frame : Outgoing → Frame
  | .forwarded f => f
  | .inserted i => i.frame

/-- The item index of an INVALID response: FFFFh when absent (R180). -/
def itemBytes (item : Option Nat) : List Byte := beBytes 2 (item.getD 65535)

/-- READ EDIT, HEADER (R181). -/
def headerBytes (h : Header) : List Byte :=
  beBytes 2 h.profileId ++ beBytes 1 h.channelCount ++ beBytes 2 h.contactDepth ++ beBytes 2 h.seatMin
  ++ beBytes 2 h.seatMax ++ beBytes 3 h.seatForce ++ beBytes 2 h.crushLimit ++ beBytes 2 h.backlash
  ++ beBytes 1 h.gapTolerance ++ beBytes 1 h.minSamples ++ beBytes 2 h.floor ++ beBytes 1 h.groupCount
  ++ beBytes 2 h.pinCount

/-- READ EDIT, GROUP (R181). -/
def groupBytes (g : GroupRec) : List Byte :=
  beBytes 2 g.start ++ beBytes 2 g.length ++ beBytes 2 g.channels.toNat ++ beBytes 2 g.perPinMin ++ beBytes 2 g.perPinMax

/-- The byte of an assignment: FFh EXCLUDED (R181, 10 R183). -/
def assignCode : Assignment → Nat
  | .group g => g
  | .excluded => 255

/-- READ EDIT, PINS, one record (R181). -/
def pinBytes (p : PinRec) : List Byte := beBytes 1 p.row ++ beBytes 1 p.col ++ beBytes 1 (assignCode p.assign)

/-- The bytes of a slot image over which its check is computed (08 R138). The layout cannot be seen outside the part; the
model takes the READ EDIT layouts one after another (log 10). -/
def imageBytes (img : Image) : List Byte :=
  headerBytes img.header ++ img.groups.flatMap groupBytes ++ img.pins.flatMap pinBytes

/-- The check value of a slot image (08 R138). -/
def imageCheck (img : Image) : Word16 := crc16 (imageBytes img)

/-! ### Argument forms of the commands (10 R183, R184)

Arguments are one string of bits, most significant first, padded to whole bytes. A parser answers `none` where the length
fits no form or a value lies outside its field. -/

/-- The field of `width` bits that starts `off` bits into the arguments. -/
def fieldAt (args : List Byte) (off width : Nat) : Nat := (beNat args >>> (8 * args.length - off - width)) % 2 ^ width

/-- A command with no argument. -/
def parseNone (args : List Byte) : Option Unit := if args = [] then some () else none

/-- ARM: 0-16 tag bytes (02 R26). -/
def parseArm (args : List Byte) : Option (List Byte) := if args.length ≤ 16 then some args else none

/-- A slot 0-23, 5 bits: EDIT LOAD, COMMIT, ERASE, PROTECT, SELECT (08). -/
def parseSlot (args : List Byte) : Option Nat :=
  if args.length = 1 ∧ fieldAt args 0 5 ≤ 23 then some (fieldAt args 0 5) else none

/-- SET HEADER: the eleven header fields other than the counts, 149 bits (08 R144, 01 R2). The counts stand at 0 here. -/
def parseHeader (args : List Byte) : Option Header :=
  let h : Header :=
    { profileId := fieldAt args 0 16, channelCount := fieldAt args 16 4, contactDepth := fieldAt args 20 16
      seatMin := fieldAt args 36 16, seatMax := fieldAt args 52 16, seatForce := fieldAt args 68 19
      crushLimit := fieldAt args 87 15, backlash := fieldAt args 102 16, gapTolerance := fieldAt args 118 8
      minSamples := fieldAt args 126 8, floor := fieldAt args 134 15, groupCount := 0, pinCount := 0 }
  if args.length = 19 ∧ 1 ≤ h.seatForce ∧ h.seatForce ≤ 393204 ∧ 1 ≤ h.crushLimit then some h else none

/-- PUT GROUP: index 0-95 and a group record, 85 bits; channel n is bit n of its set (08 R144, R183). -/
def parsePutGroup (args : List Byte) : Option (Nat × GroupRec) :=
  if args.length = 11 ∧ fieldAt args 0 7 ≤ 95 then
    some (fieldAt args 0 7,
      { start := fieldAt args 7 16, length := fieldAt args 23 16, channels := BitVec.ofNat 16 (fieldAt args 39 16)
        perPinMin := fieldAt args 55 15, perPinMax := fieldAt args 70 15 })
  else none

/-- A pin assignment: 0-127 a group, FFh EXCLUDED, nothing else (R183). -/
def readAssign (n : Nat) : Option Assignment :=
  if n ≤ 127 then some (.group n) else if n = 255 then some .excluded else none

/-- The run of `n` pin records of 18 bits that starts `off` bits in (R183). -/
def readPins (args : List Byte) : Nat → Nat → Option (List PinRec)
  | 0, _ => some []
  | n + 1, off =>
    match readAssign (fieldAt args (off + 10) 8), readPins args n (off + 18) with
    | some a, some rest => some ({ row := fieldAt args off 4, col := fieldAt args (off + 4) 6, assign := a } :: rest)
    | _, _ => none

/-- The run length of 1-8 records whose form has this many argument bytes (R183, R184). -/
def pinRunOfLength : Nat → Option Nat
  | 4 => some 1 | 6 => some 2 | 8 => some 3 | 11 => some 4 | 13 => some 5 | 15 => some 6 | 17 => some 7 | 20 => some 8
  | _ => none

/-- PUT PINS: first index 0-639 and a run of 1-8 pin records (08 R145). -/
def parsePutPins (args : List Byte) : Option (Nat × List PinRec) :=
  match pinRunOfLength args.length with
  | none => none
  | some n =>
    if fieldAt args 0 10 ≤ 639 then (readPins args n 10).map fun pins => (fieldAt args 0 10, pins) else none

/-- SET COUNTS: group count 0-127, pin count 0-1,023 (08 R144). -/
def parseCounts (args : List Byte) : Option (Nat × Nat) :=
  if args.length = 3 then some (fieldAt args 0 7, fieldAt args 7 10) else none

/-- The part of READ EDIT (08 R145). -/
inductive EditPart where
  | header
  | group (index : Nat)
  | pins (first count : Nat)
  deriving DecidableEq, Repr

/-- READ EDIT: part in 2 bits, index in 10, count in 4; each checked only where the part uses it (08 R145, R184). -/
def parseReadEdit (args : List Byte) : Option EditPart :=
  if args.length ≠ 2 then none
  else match fieldAt args 0 2 with
    | 0 => some .header
    | 1 => if fieldAt args 2 10 ≤ 95 then some (.group (fieldAt args 2 10)) else none
    | 2 =>
      if fieldAt args 2 10 ≤ 639 ∧ fieldAt args 12 4 ≤ 8 then some (.pins (fieldAt args 2 10) (fieldAt args 12 4))
      else none
    | _ => none

/-- READ DIRECTORY: first slot 0-23, count 0-6 (08 R156). -/
def parseDirectory (args : List Byte) : Option (Nat × Nat) :=
  if args.length = 1 ∧ fieldAt args 0 5 ≤ 23 ∧ fieldAt args 5 3 ≤ 6 then some (fieldAt args 0 5, fieldAt args 5 3)
  else none

/-- LOCK RANGE: lower and upper 0-255, invert (08 R152). -/
def parseLockRange (args : List Byte) : Option (Nat × Nat × Bool) :=
  if args.length = 3 then some (fieldAt args 0 8, fieldAt args 8 8, decide (fieldAt args 16 1 = 1)) else none

/-- READ VERDICTS and READ CAPTURE: a start 0-1,023 and a count 0-255 (03 R73, 06 R117). -/
def parseRun (args : List Byte) : Option (Nat × Nat) :=
  if args.length = 3 then some (fieldAt args 0 10, fieldAt args 10 8) else none

/-- The span of a span code (05 R92). -/
def spanOf : Nat → Nat
  | 0 => 1 | 1 => 16 | 2 => 256 | _ => 4096

/-- The kind a kind code names; channel and level are held for FORCE only (05 R91, R92). -/
def readKind (code channel : Nat) (level : Int) : Option TrigKind :=
  match code with
  | 0 => some .depth
  | 1 => some (.force channel level)
  | 2 => some .verdict
  | _ => none

/-- SET TRIGGER: index, kind, span code, base, channel, level, actions, enable, 46 bits (05 R92). The channel is checked
for every kind. The base is aligned down to a multiple of the span. Enable is coded by its place, 0 ON and 1 OFF (R183;
log 15). -/
def parseTrigger (args : List Byte) : Option (Nat × Trigger) :=
  let span := spanOf (fieldAt args 4 2)
  let base := fieldAt args 6 16
  let channel := fieldAt args 22 4
  if args.length = 6 ∧ channel ≤ 11 then
    (readKind (fieldAt args 2 2) channel (signed16 (fieldAt args 26 16))).map fun kind =>
      (fieldAt args 0 2,
        { kind := kind, spanCode := fieldAt args 4 2, base := base - base % span
          actions := { capture := decide (fieldAt args 44 1 = 1), hold := decide (fieldAt args 43 1 = 1)
                       mark := decide (fieldAt args 42 1 = 1) }
          enable := decide (fieldAt args 45 1 = 0) })
  else none

/-- READ RECORD: stroke number and page 0-8 (07 R126). -/
def parseRecord (args : List Byte) : Option (Nat × Nat) :=
  if args.length = 5 ∧ fieldAt args 32 4 ≤ 8 then some (fieldAt args 0 32, fieldAt args 32 4) else none

/-- The ten settings, by number (10 R186). -/
inductive Setting where
  | unitMask | stallTimeout | strokeLimit | alarmMode | alarmMask | eventMask | stepMode | stopOnFail | postCount
  | annotation
  deriving DecidableEq, Repr

/-- The setting a number names (10 R186). -/
def readSetting : Nat → Option Setting
  | 1 => some .unitMask | 2 => some .stallTimeout | 3 => some .strokeLimit | 4 => some .alarmMode
  | 5 => some .alarmMask | 6 => some .eventMask | 7 => some .stepMode | 8 => some .stopOnFail | 9 => some .postCount
  | 10 => some .annotation | _ => none

/-- The number of a setting (10 R186). -/
def Setting.number : Setting → Nat
  | .unitMask => 1 | .stallTimeout => 2 | .strokeLimit => 3 | .alarmMode => 4 | .alarmMask => 5 | .eventMask => 6
  | .stepMode => 7 | .stopOnFail => 8 | .postCount => 9 | .annotation => 10

/-- GET SETTING: a number 1-10 (10 R188). -/
def parseGetSetting (args : List Byte) : Option Setting :=
  if args.length = 1 then readSetting (fieldAt args 0 4) else none

/-- SET SETTING: a number 1-10 and a value of 24 bits (10 R187). -/
def parseSetSetting (args : List Byte) : Option (Setting × Nat) :=
  if args.length = 4 then (readSetting (fieldAt args 0 4)).map fun k => (k, fieldAt args 4 24) else none

end Sys2Proof.Machine
end

