-- ==== Sys2Proof/Machine/Profile.lean ====
section
/-! DEFINITION. Profile images: validation (01 R16-R23), slot images and their check (08 R138), and the verdict map a profile gives (03 R71). -/

namespace Sys2Proof.Machine

/-! ### The fifteen checks (R16) -/

/-- A failed validation: the number of the check in the order of R16, and its item index. -/
structure CheckFailure where
  check : Nat
  item : Option Nat
  deriving DecidableEq, Repr

/-- The group records within the group count (R1). -/
def Image.liveGroups (img : Image) : List GroupRec := img.groups.take img.header.groupCount

/-- The pin records within the pin count (R1). -/
def Image.livePins (img : Image) : List PinRec := img.pins.take img.header.pinCount

/-- V-ORDER: the first group whose start lies above its predecessor's (R18). -/
def orderFault : List GroupRec → Option Nat
  | a :: b :: rest => if b.start < a.start then some 1 else (orderFault (b :: rest)).map (· + 1)
  | _ => none

/-- V-WINDOW (R18). -/
def windowFault (gs : List GroupRec) : Option Nat :=
  firstIndex (fun g => decide (g.length = 0) || decide (4095 < g.length)) gs

/-- V-GROUPCHAN: an empty set, or a channel not below the channel count (R18). -/
def groupChanFault (channelCount : Nat) (gs : List GroupRec) : Option Nat :=
  firstIndex (fun g => decide (g.channels = 0) || decide (g.channels.toNat >>> channelCount ≠ 0)) gs

/-- V-LIMITS: floor < minimum ≤ maximum (R19). -/
def limitsFault (floor : Nat) (gs : List GroupRec) : Option Nat :=
  firstIndex (fun g => decide (g.perPinMin ≤ floor) || decide (g.perPinMax < g.perPinMin)) gs

/-- V-CONTACT: the contact depth reaches group 0's start (R19). -/
def contactFault (contact : Nat) : List GroupRec → Option Nat
  | [] => none
  | g :: _ => if g.start ≤ contact then some 0 else none

/-- V-SEAT, second part: a window end beyond the seat depth minimum (R20). -/
def seatFault (seatMin : Nat) (gs : List GroupRec) : Option Nat :=
  firstIndex (fun g => decide (seatMin < g.windowEnd)) gs

/-- How many windows contain a depth (R21). -/
def windowsAt (gs : List GroupRec) (d : Nat) : Nat :=
  (gs.filter fun h => decide (h.start ≤ d) && decide (d < h.windowEnd)).length

/-- V-OVERLAP: a start that lies inside more than eight windows (R21). -/
def overlapFault (gs : List GroupRec) : Option Nat := firstIndex (fun g => decide (8 < windowsAt gs g.start)) gs

/-- V-PINGROUP: an assignment to a group at or above the group count (R22). -/
def pinGroupFault (groupCount : Nat) (pins : List PinRec) : Option Nat :=
  firstIndex (fun p => match p.assign with
    | .group g => decide (groupCount ≤ g)
    | .excluded => false) pins

/-- V-EMPTYGROUP: a group without a pin (R22). -/
def emptyGroupFault (groupCount : Nat) (pins : List PinRec) : Option Nat :=
  firstIndex (fun g => decide (groupPins pins g = 0)) (List.range groupCount)

/-- V-LABEL: the first pin whose label some pin of lower index carries (R22). -/
def labelFault : List (Nat × Nat) → List PinRec → Option Nat
  | _, [] => none
  | seen, p :: ps =>
    if (p.row, p.col) ∈ seen then some 0 else (labelFault ((p.row, p.col) :: seen) ps).map (· + 1)

/-- A check that reports an item, when it finds one. -/
def reported (n : Nat) (item : Option Nat) : Option CheckFailure := item.map fun i => { check := n, item := some i }

/-- A check that reports no item. -/
def headerCheck (n : Nat) (fails : Prop) [Decidable fails] : Option CheckFailure :=
  if fails then some { check := n, item := none } else none

/-- Validation: the first failing check of the fifteen, in order; `none` is OK (R16-R23). -/
def Image.validate (img : Image) : Option CheckFailure :=
  let h := img.header
  let gs := img.liveGroups
  let ps := img.livePins
  headerCheck 1 (h.channelCount = 0 ∨ 12 < h.channelCount)
  <|> headerCheck 2 (h.groupCount = 0 ∨ 96 < h.groupCount)
  <|> headerCheck 3 (h.pinCount = 0 ∨ 640 < h.pinCount)
  <|> reported 4 (orderFault gs)
  <|> reported 5 (windowFault gs)
  <|> reported 6 (groupChanFault h.channelCount gs)
  <|> reported 7 (limitsFault h.floor gs)
  <|> reported 8 (contactFault h.contactDepth gs)
  <|> headerCheck 9 (h.seatMax < h.seatMin)
  <|> reported 9 (seatFault h.seatMin gs)
  <|> reported 10 (overlapFault gs)
  <|> reported 11 (pinGroupFault h.groupCount ps)
  <|> reported 12 (emptyGroupFault h.groupCount ps)
  <|> reported 13 (labelFault [] ps)
  <|> headerCheck 14 (h.minSamples < 2)
  <|> headerCheck 15 (255 < h.backlash ∨ 15 < h.gapTolerance)

/-! ### Slot images (08 R138, R146) -/

/-- The image a slot stores: the records within the counts (R138). -/
def Image.stored (img : Image) : Image := { header := img.header, groups := img.liveGroups, pins := img.livePins }

/-- A list made `n` long with cleared records. -/
def padTo {α : Type} (n : Nat) (a : α) (xs : List α) : List α := xs ++ List.replicate (n - xs.length) a

/-- The buffer a slot image loads: every record beyond the counts cleared (R146). -/
def Image.padded (img : Image) : Image :=
  { header := img.header, groups := padTo 96 {} img.groups, pins := padTo 640 {} img.pins }

/-- What a COMMIT writes: the stored image and its check (R138, R149). -/
def Image.written (img : Image) : SlotContent := .image img.stored (imageCheck img.stored)

/-- The slot's check: the image it holds when the computed CRC equals the stored value (R138). -/
def SlotContent.checked : SlotContent → Option Image
  | .image img check => if imageCheck img = check then some img else none
  | .erased | .broken => none

/-- The memory of a slot as a read finds it: unchanged since it was written, or not (R138, log 9). -/
def SlotContent.found (c : SlotContent) (intact : Bool) : SlotContent := if intact then c else .broken

/-- The directory entry of an image (R139). -/
def Image.entry (img : Image) : SlotState := .valid img.header.profileId img.header.groupCount img.header.pinCount

/-- How the scan judges a slot (R140). -/
def SlotContent.judged (c : SlotContent) : SlotState :=
  if c = .erased then .empty
  else match c.checked with
    | some img => img.entry
    | none => .corrupt

/-! ### The verdict map of a profile (03 R71) -/

/-- An entry as ARM and a rebuild set it. -/
def PinRec.freshEntry (p : PinRec) : MapEntry :=
  match p.assign with
  | .excluded => { verdict := .excluded, estimate := none }
  | .group _ => { verdict := .untested, estimate := none }

/-- The map as ARM and a rebuild set it (R71). -/
def Image.freshMap (img : Image) : List MapEntry := img.livePins.map PinRec.freshEntry

end Sys2Proof.Machine
end

