-- ==== Sys2Proof/Machine/Ops.lean ====
section
/-! DEFINITION. The operations the commands share: handing over a frame, raising a cause, closing and aborting a stroke,
entering IDLE, the store's accessors, the resets, and the taking of a command. -/

namespace Sys2Proof.Machine

/-! ### Insert queue (09 R173-R175) and causes (07 R130-R132) -/

/-- The drop counter rises by one and stays at 65,535 (R174). -/
def countDrop (s : State) : State := { s with tx := { s.tx with drop := min 65535 (s.tx.drop + 1) } }

/-- DROP is raised: pending, and the report owed when DROP is in the event-frame mask; no frame now (R132). -/
def raiseDrop (s : State) : State :=
  { s with evt := { s.evt with
      pending := CauseSet.with s.evt.pending .drop
      dropOwed := s.evt.dropOwed.or
        (if CauseSet.has s.evt.eventMask .drop then some { strokeNumber := s.seq.strokeNumber, depth := s.sns.latestDepth }
         else none) } }

/-- An inserted frame is discarded: counted, and DROP raised (R174). -/
def dropInserted (s : State) : State := raiseDrop (countDrop s)

/-- The controller port is UP and the queue has room (R173). -/
def State.queueTakes (s : State) : Bool := decide (s.ctl.port = .up) && decide (s.tx.queue.length < 32)

/-- A block hands an inserted frame to the transmitter: it joins the queue, or is dropped at a full queue (R174) or at a
port that is not UP (R175). -/
def handOver (i : Inserted) (s : State) : State :=
  let s1 : State := { s with tx := { s.tx with created := s.tx.created + 1 } }
  if s.queueTakes then { s1 with tx := { s1.tx with queue := s1.tx.queue ++ [i] } } else dropInserted s1

/-- A raising of a cause other than DROP: pending, then an event frame when the mask allows (07 R130, R131). -/
def raise (c : Cause) (d : Detail) (s : State) : State :=
  let s1 : State := { s with evt := { s.evt with pending := CauseSet.with s.evt.pending c } }
  if CauseSet.has s.evt.eventMask c then handOver (.event c s.seq.strokeNumber s.sns.latestDepth d) s1 else s1

/-- The owed DROP event frame is created when the controller port is UP and the queue has room (07 R132). It carries the
stroke number and depth of the raising that set the flag (R131), and the drop counter as it stands now (log 18). -/
def reportDrop (s : State) : State :=
  match s.evt.dropOwed with
  | none => s
  | some d =>
    if s.queueTakes then
      let s1 := handOver (.event .drop d.strokeNumber d.depth (.count s.tx.drop)) s
      { s1 with evt := { s1.evt with dropOwed := none } }
    else s

/-- A forwarded frame is handed to the transmitter; at a port not UP it is discarded without count (09 R163). -/
def forward (f : Frame) (s : State) : State :=
  if s.ctl.port = .up then { s with tx := { s.tx with fwd := s.tx.fwd ++ [f] } } else s

/-- A return-lane frame is passed through to the sensor port; at a port not UP it is discarded without count (09 R163). -/
def passThrough (f : Frame) (s : State) : State :=
  if s.sns.port = .up then { s with snsTx := s.snsTx ++ [frameBytes f] } else s

/-- A bad frame at the sensor port (09 R164). -/
def countSensorBad (s : State) : State := { s with sns := { s.sns with bad := min 65535 (s.sns.bad + 1) } }

/-- A bad frame at the controller port (09 R164). -/
def countControllerBad (s : State) : State := { s with ctl := { s.ctl with bad := min 65535 (s.ctl.bad + 1) } }

/-! ### The close of a stroke (07 R121-R125) -/

/-- The last `n` elements of a list. -/
def keepLast {α : Type} (n : Nat) (xs : List α) : List α := xs.drop (xs.length - n)

/-- How many map entries hold a verdict (03 R74). -/
def verdictCount (map : List MapEntry) (v : Verdict) : Nat := (map.filter fun e => e.verdict == v).length

/-- The seven verdict counts (03 R74). -/
def countsOf (map : List MapEntry) : VerdictCounts :=
  { pass := verdictCount map .pass, low := verdictCount map .low, high := verdictCount map .high
    noEngage := verdictCount map .noEngage, noData := verdictCount map .noData, aborted := verdictCount map .aborted
    excluded := verdictCount map .excluded }

/-- The outcome (07 R123). -/
def outcomeOf (reason : Option AbortReason) (failTotal : Nat) : StrokeOutcome :=
  if reason.isSome then .abort else if 0 < failTotal then .fail else .pass

/-- The stroke record of a close (07 R122): the link counts held at 65,535. -/
def buildRecord (reason : Option AbortReason) (seatDepth : Option Nat) (s : State) : StrokeRecord :=
  { strokeNumber := s.seq.strokeNumber, tag := s.seq.tag, slot := s.load.activeSlot.getD 0
    profileId := s.profile.header.profileId, outcome := outcomeOf reason s.win.failTotal, reason := reason
    seatDepth := seatDepth, peak := s.seq.peak, counts := countsOf s.win.map, failTotal := s.win.failTotal
    failList := s.win.failList, missing := min 65535 s.sns.missing, stale := min 65535 s.sns.stale
    sampleCount := s.seq.sampleCount }

/-- The items of the verdict frame of a record (07 R125). -/
def StrokeRecord.verdictItems (r : StrokeRecord) : VerdictItems :=
  { strokeNumber := r.strokeNumber, outcome := r.outcome, reason := r.reason, counts := r.counts
    failTotal := r.failTotal, first := r.failList.head? }

/-- The cause of an outcome (07 R123). -/
def StrokeOutcome.cause : StrokeOutcome → Cause
  | .pass => .strokePass
  | .fail | .abort => .strokeFail

/-- The record enters the history, the oldest leaving beyond 8, and the outcomes move (07 R123, R124). -/
def enterRecord (r : StrokeRecord) (s : State) : State :=
  { s with rcd := { history := keepLast 8 (s.rcd.history ++ [r]), last := some r.outcome, previous := s.rcd.last } }

/-- The close: record, history, outcomes, verdict frame, outcome cause (07 R121). -/
def closeStroke (reason : Option AbortReason) (seatDepth : Option Nat) (s : State) : State :=
  let r := buildRecord reason seatDepth s
  raise r.outcome.cause .absent (handOver (.verdict r.verdictItems) (enterRecord r s))

/-! ### IDLE and aborts (02 R48, R50; 03 R72; 08 R161) -/

/-- The stall timer stops (02 R44). -/
def stopTimer (s : State) : State := { s with seq := { s.seq with stallTimer := none } }

/-- The swap: the staged tables become the active tables and the map is rebuilt (08 R161, 03 R71). -/
def swapTables (img : Image) (s : State) : State :=
  { s with
    load := { s.load with active := .ready img, activeSlot := s.load.stagedSlot, stale := false, staged := .absent
                          stagedSlot := none, swapPending := false }
    win := { s.win with map := img.freshMap } }

/-- What the loader does at an entry to IDLE (08 R161). -/
def loaderAtIdle (s : State) : State :=
  match s.load.staged with
  | .ready img => swapTables img s
  | .loading => { s with load := { s.load with swapPending := true } }
  | .absent => s

/-- The entry to IDLE: timer stopped, hold cleared, the loader told (02 R50). -/
def enterIdle (s : State) : State :=
  loaderAtIdle { s with seq := { s.seq with phase := .idle, stallTimer := none }, line := { s.line with hold := false } }

/-- An UNTESTED entry becomes ABORTED (03 R72). -/
def MapEntry.abortMark (e : MapEntry) : MapEntry :=
  if e.verdict = .untested then { verdict := .aborted, estimate := none } else e

/-- The window engine marks an abort (03 R72). -/
def markAbort (s : State) : State :=
  { s with win := { s.win with map := s.win.map.map MapEntry.abortMark, openSet := [] } }

/-- The cause of an abort's reason is raised; DISARM has none (07 R129). -/
def raiseReason (r : AbortReason) (d : Detail) (s : State) : State :=
  match r.cause with
  | some c => raise c d s
  | none => s

/-- The lines at an abort: hold cleared, stop latch set when the reason says so (02 R48, R49, 04 R77, R82). -/
def abortLines (r : AbortReason) (s : State) : State :=
  { s with line := { stop := s.line.stop || r.latches, hold := false } }

/-- An abort, but for the phase it ends in (02 R48). The cause is raised before the close is handed over (07 R125; log 17). -/
def abortBody (r : AbortReason) (d : Detail) (s : State) : State :=
  abortLines r (closeStroke (some r) none (raiseReason r d (markAbort (stopTimer s))))

/-- An abort for any reason but DISARM: the phase becomes ABORTED (02 R48). -/
def abort (r : AbortReason) (d : Detail) (s : State) : State :=
  let t := abortBody r d s
  { t with seq := { t.seq with phase := .aborted } }

/-- An abort by DISARM: the phase becomes IDLE, which is an entry to IDLE (02 R47, R48, R50). -/
def abortDisarm (s : State) : State := enterIdle (abortBody .disarm .absent s)

/-! ### Slots and directory (08) -/

def setDirectory (slot : Nat) (d : SlotState) (s : State) : State :=
  { s with store := { s.store with directory := s.store.directory.set slot d } }

def setContent (slot : Nat) (c : SlotContent) (s : State) : State :=
  { s with store := { s.store with slots := s.store.slots.set slot c } }

def State.content (s : State) (slot : Nat) : SlotContent := s.store.slots.getD slot .erased

def State.slotState (s : State) (slot : Nat) : SlotState := s.store.directory.getD slot .empty

def setNvOp (op : Option NvOp) (s : State) : State := { s with store := { s.store with nvOp := op } }

def setBuffer (img : Image) (s : State) : State := { s with store := { s.store with buffer := img } }

/-- The end of a non-volatile operation: NV busy clears and NV_DONE is raised; before it PROFILE_FAULT with the slot when
`fault` names one (R141, R146, R149, R150, R155). -/
def nvFinish (slot : Option Nat) (ok : Bool) (fault : Option Nat) (s : State) : State :=
  let s1 := setNvOp none s
  let s2 := match fault with
    | some n => raise .profileFault (.slot n) s1
    | none => s1
  raise .nvDone (.nv slot ok) s2

/-- The lock range that locks every slot (R153). -/
def lockAll (s : State) : State :=
  { s with store := { s.store with lockLower := 0, lockUpper := 23, invert := true } }

/-! ### Resets (08 R140, R141; 10 R192, R193) -/

/-- The protect bits left by an operation that NRST or power-off ended where it stands: each bit the operation was
changing has changed or not, as the free value says (R141; log 11). -/
def protectCut (op : Option NvOp) (reached old : BitVec 24) : BitVec 24 :=
  match op with
  | some (.protect slot) => old ||| (BitVec.twoPow 24 slot &&& reached)
  | some .clearProtect => old &&& ~~~reached
  | _ => old

/-- A running non-volatile operation ends where it stands (R141). A COMMIT or ERASE leaves its slot partial (R140), as it
has been since it began (log 21). -/
def cutOperation (s : State) : State :=
  { s with
    store := { s.store with
      protect := protectCut s.store.nvOp (Config.protectReached s.freeIdx) s.store.protect
      nvOp := none }
    freeIdx := s.freeIdx + 1 }

/-- Every block at its power-on value, the straps read and the scan begun (08 R140). Kept: the terminals' levels, the
slots and protect bits, what has left the part, the counter of free values and the queue. -/
def powerUp (locken : Bool) (addr : BitVec 6) (s : State) : State :=
  { s with
    lockenHigh := locken, unitAddr := addr
    seq := {}, win := {}, line := {}, trig := List.replicate 4 {}, cap := {}, rcd := {}, evt := {}, sns := {}, ctl := {}
    tx := { ctlTx := s.tx.ctlTx }
    store := { slots := s.store.slots, protect := s.store.protect
               invert := if s.wpHigh then locken else true }
    load := {}, dec := {} }

/-- Soft reset (10 R192); what R193 lists stays. The frame on the lane is sent to its end, forwarded frames wait on (09
R173). The ledger of R175 counts from the reset, the inserted frame on the lane included (log 12). -/
def softReset (s : State) : State :=
  { s with
    seq := {}, win := {}, line := {}, trig := List.replicate 4 {}, cap := {}, rcd := {}, evt := {}
    sns := { s.sns with missing := 0, stale := 0 }
    tx := { s.tx with queue := [], drop := 0, sent := 0
                      created := match s.tx.lane with
                        | some (.inserted _) => 1
                        | _ => 0 }
    store := { s.store with buffer := Image.cleared }
    load := {}
    dec := { hand := s.dec.hand } }

/-! ### Taking a command (09 R172; 10 R182-R185) -/

/-- What an owner answers: a result and data (10 R185). -/
structure Reply where
  result : Result
  data : List Byte := []
  deriving DecidableEq, Repr

/-- The response to a command is handed over (10 R185). -/
def respond (c : Command) (r : Reply) (s : State) : State := handOver (.response c.tag c.number r.result r.data) s

/-- The command byte names one of the 35 commands (10 R184). -/
def Command.known (c : Command) : Bool := decide (1 ≤ c.number.toNat) && decide (c.number.toNat ≤ 35)

/-- The decoder, holding none, takes the next waiting command at once (10 R182). One of an unknown number is answered
UNKNOWN as it is taken, since no row of the table takes it (R184; log 3), and the next follows. -/
def promote : List Command → State → State
  | [], s => { s with ctl := { s.ctl with waitList := [] } }
  | c :: rest, s =>
    if c.known then { s with dec := { s.dec with hand := some c }, ctl := { s.ctl with waitList := rest } }
    else promote rest (respond c { result := .unknown } s)

/-- The decoder takes the next command when it holds none. -/
def settleHand (s : State) : State :=
  match s.dec.hand with
  | some _ => s
  | none => promote s.ctl.waitList s

/-- The command in hand is done with, and the decoder takes the next (10 R182). -/
def releaseHand (s : State) : State := settleHand { s with dec := { s.dec with hand := none } }

/-- The general checks after the number's, and the owner: RANGE for a form or field that does not fit, BUSY while the scan
runs unless the command is always taken (10 R184). A refused command changes no state. -/
def serve {α : Type} (always : Bool) (parse : List Byte → Option α) (owner : α → State → Reply × State) (args : List Byte)
    (s : State) : Reply × State :=
  match parse args with
  | none => ({ result := .range }, s)
  | some a => if s.store.scanRunning && !always then ({ result := .busy }, s) else owner a s

/-- The decoder carries the command in hand, of this number, to its response, whole (10 R182, R184, R185). When the hand
holds no such command the row's event does not take place (log 2). -/
def runCommand {α : Type} (number : Nat) (always : Bool) (parse : List Byte → Option α)
    (owner : α → State → Reply × State) (s : State) : State :=
  match s.dec.hand with
  | none => s
  | some c =>
    if s.live && decide (c.number.toNat = number) then
      let r := serve always parse owner c.args s
      releaseHand (respond c r.1 r.2)
    else s

end Sys2Proof.Machine
end

