-- ==== Sys2Proof/Machine/Window.lean ====
section
/-! DEFINITION. The window engine: close, open, update and mark on one advancing sample (03 R60-R66), and classification (R67, R68). -/

namespace Sys2Proof.Machine

/-- A group classified on a sample, as the engine keeps it for the trigger unit (R66). -/
structure Classified where
  group : Nat
  start : Nat
  verdict : Verdict
  deriving DecidableEq, Repr

/-- The engine's working values on one sample: its state and the groups classified so far. -/
structure WinWork where
  win : WinState
  classified : List Classified := []
  deriving DecidableEq, Repr

/-- What a window shows at its close: the measure of an entry, or nothing for a jumped window (R62, R67). -/
structure Measure where
  rise : Int
  count : Nat
  interrupted : Bool
  deriving DecidableEq, Repr

/-- The per-pin estimate: the rise over the pins of the group, remainder dropped (R59). -/
def estimate (rise : Int) (pins : Nat) : Nat := rise.toNat / pins

/-- The verdict of an estimate, in the order of R67. -/
def judge (floor : Nat) (g : GroupRec) (e : Nat) : Verdict :=
  if e < floor then .noEngage else if e < g.perPinMin then .low else if g.perPinMax < e then .high else .pass

/-- Classification: NODATA without an estimate for a jumped, short or interrupted window, else by the estimate (R67). -/
def classify (h : Header) (g : GroupRec) (pins : Nat) : Option Measure → MapEntry
  | none => { verdict := .noData, estimate := none }
  | some m =>
    if m.count < h.minSamples ∨ m.interrupted = true then { verdict := .noData, estimate := none }
    else { verdict := judge h.floor g (estimate m.rise pins), estimate := some (estimate m.rise pins) }

/-- The failing verdicts (R68). -/
def Verdict.failing : Verdict → Bool
  | .noEngage | .low | .high | .noData => true
  | .untested | .pass | .aborted | .excluded => false

/-- The entry is written to every pin of the group, in pin-index order (R68). -/
def assignMap (g : Nat) (e : MapEntry) : List PinRec → List MapEntry → List MapEntry
  | [], map => map
  | _, [] => []
  | p :: ps, m :: ms => (if p.assign = .group g then e else m) :: assignMap g e ps ms

/-- The failing entries of the pins of a group, the pins counted from `i`, in pin-index order (R68). -/
def failEntries (g : Nat) (e : MapEntry) : Nat → List PinRec → List FailEntry
  | _, [] => []
  | i, p :: ps =>
    if p.assign = .group g then
      { pin := i, row := p.row, col := p.col, verdict := e.verdict, estimate := e.estimate } :: failEntries g e (i + 1) ps
    else failEntries g e (i + 1) ps

/-- A group's verdict is assigned: map, failing total, and failing list up to 48 entries (R68). -/
def assignVerdict (pins : List PinRec) (g : Nat) (e : MapEntry) (w : WinState) : WinState :=
  let fails := if e.verdict.failing then failEntries g e 0 pins else []
  { w with map := assignMap g e pins w.map, failTotal := w.failTotal + fails.length
           failList := (w.failList ++ fails).take 48 }

/-- A group is classified and its verdict assigned at once (R61, R62, R68). -/
def classifyGroup (img : Image) (i : Nat) (g : GroupRec) (m : Option Measure) (w : WinWork) : WinWork :=
  let e := classify img.header g (groupPins img.livePins i) m
  { win := assignVerdict img.livePins i e w.win
    classified := w.classified ++ [{ group := i, start := g.start, verdict := e.verdict }] }

/-- The group record at an index. -/
def Image.groupAt (img : Image) (i : Nat) : GroupRec := img.groups.getD i {}

/-- The measure an entry holds (R58). -/
def WinEntry.measure (e : WinEntry) : Measure := { rise := e.peak - e.l0, count := e.count, interrupted := e.interrupted }

/-- The entry's window has ended at this depth (R61). -/
def WinEntry.ended (img : Image) (depth : Nat) (e : WinEntry) : Bool := decide ((img.groupAt e.group).windowEnd ≤ depth)

/-- Step 1, close: every ended entry leaves the set and is classified, oldest first (R61). -/
def closeEnded (img : Image) (depth : Nat) (w : WinState) : WinWork :=
  let ended := w.openSet.filter (WinEntry.ended img depth)
  ended.foldl (fun acc e => classifyGroup img e.group (img.groupAt e.group) (some e.measure) acc)
    { win := { w with openSet := w.openSet.filter fun e => !WinEntry.ended img depth e } }

/-- A window opens on this sample (R62). -/
def openEntry (i : Nat) (g : GroupRec) (net : List Int) : WinEntry :=
  { group := i, l0 := groupSum g.channels net, peak := groupSum g.channels net, count := 1, interrupted := false }

/-- Step 2, open: the groups from the cursor on whose start the sample has reached open or are jumped, in index order
(R62). `i` is the index of the first group of the list; the entries opened are returned apart. -/
def openReached (img : Image) (depth : Nat) (net : List Int) : List GroupRec → Nat → WinWork → WinWork × List WinEntry
  | [], _, w => (w, [])
  | g :: gs, i, w =>
    if g.start ≤ depth then
      let w1 : WinWork := { w with win := { w.win with cursor := i + 1 } }
      if g.windowEnd ≤ depth then openReached img depth net gs (i + 1) (classifyGroup img i g none w1)
      else
        let r := openReached img depth net gs (i + 1) w1
        (r.1, openEntry i g net :: r.2)
    else (w, [])

/-- Steps 3 and 4, first part: an entry that stays open takes the sample, and a gap beyond the tolerance marks it (R63, R64). -/
def updateEntry (img : Image) (net : List Int) (gap : Nat) (e : WinEntry) : WinEntry :=
  { e with count := e.count + 1, peak := max e.peak (groupSum (img.groupAt e.group).channels net)
           interrupted := e.interrupted || decide (img.header.gapTolerance < gap) }

/-- Step 4, second part: an overrange flag on a channel of the group's set marks the entry (R65). -/
def markOverrange (img : Image) (overrange : BitVec 12) (e : WinEntry) : WinEntry :=
  { e with interrupted := e.interrupted
      || decide ((img.groupAt e.group).channels &&& overrange.zeroExtend 16 ≠ 0) }

/-- The work on one advancing sample: close, open, update, mark (R60-R65). -/
def windowWork (img : Image) (x : Sample) (gap : Nat) (net : List Int) (w : WinState) : WinWork :=
  let closed := closeEnded img x.depth w
  let stay := closed.win.openSet
  let r := openReached img x.depth net (img.liveGroups.drop closed.win.cursor) closed.win.cursor closed
  { r.1 with win := { r.1.win with
      openSet := (stay.map (updateEntry img net gap) ++ r.2).map (markOverrange img x.overrange) } }

/-- Every group has closed (R54). -/
def everyGroupClosed (img : Image) (w : WinState) : Bool :=
  decide (w.cursor = img.header.groupCount) && w.openSet.isEmpty

/-- A failing verdict was assigned on the sample: some classified group has one (R69). -/
def failedOnSample (cs : List Classified) : Bool := cs.any fun c => c.verdict.failing

end Sys2Proof.Machine
end

