-- ==== Sys2Proof/Machine/Trigger.lean ====
section
/-! DEFINITION. The trigger unit's work on a handed sample (05 R94-R106), and the hold request it returns (02 R39). -/

namespace Sys2Proof.Machine

/-- What the handling of a sample hands on besides the state: the trigger unit's mark bits and one capture request (R94,
R99), and the open-window count when the window engine had the sample (03 R66). -/
structure TrigOut where
  marks : List Bool := [false, false, false, false]
  capture : Bool := false
  openCount : Option Nat := none
  deriving DecidableEq, Repr

/-- The depth lies in the entry's range [base, base + span) (R91). -/
def Trigger.covers (t : Trigger) (d : Nat) : Bool := decide (t.base ≤ d) && decide (d < t.base + spanOf t.spanCode)

/-- Step 1: a depth outside the range clears the suppress flag (R104). -/
def Trigger.release (d : Nat) (t : Trigger) : Trigger := { t with suppress := t.suppress && t.covers d }

/-- Does the entry match the sample (R95, R96, R97). -/
def Trigger.matched (depth : Nat) (advancing : Bool) (net : List Int) (cs : List Classified) (t : Trigger) : Bool :=
  match t.kind with
  | .depth => advancing && t.covers depth
  | .force ch level => t.covers depth && decide (level < net.getD ch 0)
  | .verdict => cs.any fun c => decide (c.verdict ≠ .pass) && t.covers c.start

/-- The entry acts: it matches, is enabled and is not suppressed (R99). -/
def Trigger.acts (depth : Nat) (advancing : Bool) (net : List Int) (cs : List Classified) (t : Trigger) : Bool :=
  t.matched depth advancing net cs && t.enable && !t.suppress

/-- Step 2: a match sets the hit flag (R98). -/
def Trigger.noteHit (depth : Nat) (advancing : Bool) (net : List Int) (cs : List Classified) (t : Trigger) : Trigger :=
  { t with hit := t.hit || t.matched depth advancing net cs }

/-- A hold request: HELD is entered from APPROACH, ENGAGE or SEATING, with the hold state set and HOLD raised; any other
phase ignores it (02 R39, 04 R81). -/
def holdRequest (s : State) : State :=
  match s.seq.phase with
  | .approach | .engage | .seating =>
    raise .hold (.depth s.seq.highWater)
      { s with
        seq := { s.seq with phase := .held, heldFrom := some s.seq.phase, holdDepth := some s.seq.highWater }
        line := { s.line with hold := true } }
  | .idle | .armed | .held | .retract | .aborted => s

/-- The trigger unit takes a sample: release, match, act (R94); group stepping asks for a hold on a sample that classifies
a group (R106). -/
def triggerWork (depth : Nat) (advancing : Bool) (net : List Int) (cs : List Classified) (s : State) : State × TrigOut :=
  let released := s.trig.map (Trigger.release depth)
  let acting := released.filter (Trigger.acts depth advancing net cs)
  let hold := acting.any (fun t => t.actions.hold) || (s.dec.stepMode && !cs.isEmpty)
  let s1 : State := { s with trig := released.map (Trigger.noteHit depth advancing net cs) }
  (if hold then holdRequest s1 else s1,
   { marks := released.map fun t => t.acts depth advancing net cs && t.actions.mark
     capture := acting.any fun t => t.actions.capture })

/-- RESUME sets the suppress flag of every entry whose range contains the hold depth (R103). -/
def Trigger.suppressAt (d : Nat) (t : Trigger) : Trigger := { t with suppress := t.suppress || t.covers d }

end Sys2Proof.Machine
end

