-- ==== Sys2Proof/Machine/Capture.lean ====
section
/-! DEFINITION. The capture unit: recording, freezing and capture requests (06 R109-R114). -/

namespace Sys2Proof.Machine

/-- The entry of an accepted sample: the phase is the one its handling left (R108). -/
def histEntry (x : Sample) (phase : Phase) : HistEntry :=
  { seq := x.seq, depth := x.depth, raw := x.raw, overrange := x.overrange, phase := phase }

/-- The entry joins the ring; at 512 the oldest leaves and the trigger position follows its entry (R109, R111). -/
def pushHistory (e : HistEntry) (c : CapState) : CapState :=
  if c.ring.length < 512 then { c with ring := c.ring ++ [e] }
  else { c with ring := c.ring.drop 1 ++ [e], trigPos := c.trigPos.map (· - 1) }

/-- The entry to FROZEN: recording stops, the trigger offset is fixed, CAPTURE_DONE is raised (R112). The offset is the
number of entries older than the trigger entry, which is its place in the ring. -/
def freeze (s : State) : State :=
  raise .captureDone .absent
    { s with cap := { s.cap with state := .frozen, countdown := 0, trigOffset := s.cap.trigPos } }

/-- The capture unit takes an accepted sample: recorded unless FROZEN; COUNTING counts down and freezes at 0 (R109, R112,
R113). -/
def recordSample (e : HistEntry) (s : State) : State :=
  match s.cap.state with
  | .idle => { s with cap := pushHistory e s.cap }
  | .counting =>
    let c := pushHistory e s.cap
    let s1 : State := { s with cap := { c with countdown := c.countdown - 1 } }
    if s1.cap.countdown = 0 then freeze s1 else s1
  | .frozen => s

/-- A capture request: in IDLE it sets the trigger position to the newest entry and starts counting, or freezes at once
for a post count of 0; otherwise it is missed (R111, R114). -/
def captureRequest (s : State) : State :=
  match s.cap.state with
  | .idle =>
    let pos := if s.cap.ring = [] then none else some (s.cap.ring.length - 1)
    if s.dec.postCount = 0 then freeze { s with cap := { s.cap with trigPos := pos } }
    else { s with cap := { s.cap with trigPos := pos, state := .counting, countdown := s.dec.postCount } }
  | .counting | .frozen => { s with cap := { s.cap with missed := min 65535 (s.cap.missed + 1) } }

end Sys2Proof.Machine
end

