-- ==== Sys2Proof/Machine/Sequencer.lean ====
section
/-! DEFINITION. The stroke sequencer's handling of an accepted sample (02 R28-R40). -/

namespace Sys2Proof.Machine

/-- The net forces of a sample from the baselines that stand (03 R56). -/
def State.netOf (s : State) (x : Sample) : List Int := netForces s.seq.baselines x.raw

/-- The seat sum of a sample (03 R57). -/
def State.seatSumOf (s : State) (x : Sample) : Int := seatSum s.profile.header.channelCount (s.netOf x)

/-- The period of the stall timer: stopped when the setting is 0 (02 R44). -/
def State.stallPeriod (s : State) : Option Nat := if s.dec.stallTimeout = 0 then none else some s.dec.stallTimeout

/-- Step 1: the sample is counted and the stall timer restarts (R29, R44). -/
def countSample (s : State) : State :=
  { s with seq := { s.seq with sampleCount := s.seq.sampleCount + 1, stallTimer := s.stallPeriod } }

/-- The peak raised by a seat sum (R37). -/
def raisePeak (sum : Int) : Option Int → Option Int
  | none => some sum
  | some p => some (max p sum)

/-- Step 2: after contact, the seat sum enters the peak, the crushing sample's included (R37). -/
def takePeak (x : Sample) (s : State) : State :=
  if s.seq.contact then { s with seq := { s.seq with peak := raisePeak (s.seatSumOf x) s.seq.peak } } else s

/-- The lowest channel from `c` on that crushes: net force over the limit, or its overrange flag set (R38). -/
def crushFrom (limit : Nat) (overrange : BitVec 12) : Nat → List Int → Option Nat
  | _, [] => none
  | c, v :: vs => if (limit : Int) < v ∨ overrange.getLsbD c = true then some c else crushFrom limit overrange (c + 1) vs

/-- Step 2: the crush check over channels 0 to channel count - 1 (R38). -/
def crushChannel (x : Sample) (s : State) : Option Nat :=
  crushFrom s.profile.header.crushLimit x.overrange 0 ((s.netOf x).take s.profile.header.channelCount)

/-- Step 3: the stroke sample count is over the limit (R46). -/
def overLimit (s : State) : Bool := decide (s.dec.strokeLimit * 1024 < s.seq.sampleCount)

/-- How a sample moves (R30, R31, R40). -/
inductive Movement where
  | advancing | still | reversal | creep
  deriving DecidableEq, Repr

/-- Step 4: the movement of a sample (R30, R31, R40, R42). -/
def movement (depth : Nat) (s : State) : Movement :=
  if s.seq.phase = .held then
    if s.seq.holdDepth.getD 0 + s.profile.header.backlash < depth then .creep else .still
  else if s.seq.highWater < depth then .advancing
  else if depth + s.profile.header.backlash < s.seq.highWater ∧ s.seq.rePress = false then .reversal
  else .still

/-- Step 4: an advancing sample sets the high-water depth and clears the re-press flag (R30, R42). -/
def advance (depth : Nat) (s : State) : State := { s with seq := { s.seq with highWater := depth, rePress := false } }

/-- An APPROACH sample joins the tare ring, which keeps the 32 newest (R32). -/
def pushTare (x : Sample) (s : State) : State :=
  { s with seq := { s.seq with tareRing := keepLast 32 (s.seq.tareRing ++ [{ depth := x.depth, raw := x.raw }]) } }

/-- The contact sample finds the baselines and enters ENGAGE; its seat sum from them starts the peak (R33). -/
def takeContact (x : Sample) (s : State) : State :=
  let s1 : State :=
    { s with seq := { s.seq with baselines := baselinesOf s.profile.header.channelCount s.seq.tareRing, contact := true
                                 phase := .engage } }
  { s1 with seq := { s1.seq with peak := some (s1.seatSumOf x) } }

/-- The stroke is DONE: the timer stops, the phase becomes RETRACT and the close is handed over (R36). -/
def strokeDone (depth : Nat) (s : State) : State :=
  closeStroke none (some depth) { s with seq := { s.seq with phase := .retract, stallTimer := none } }

/-- The seat test (R35). -/
def seatTest (x : Sample) (s : State) : State :=
  let h := s.profile.header
  if (h.seatForce : Int) ≤ s.seatSumOf x then
    if s.seq.phase = .seating ∧ h.seatMin ≤ x.depth then strokeDone x.depth s else abort .earlySeat .absent s
  else if h.seatMax < x.depth then abort .overtravel .absent s
  else s

/-- The phase after the window engine's report: SEATING once every group has closed (R34, 03 R54, R66). -/
def seatingPhase (p : Phase) (closed : Bool) : Phase := if closed && p == .engage then .seating else p

/-- The window engine's work on the sample (R34, 03 R60). -/
def windowReport (x : Sample) (gap : Nat) (s : State) : WinWork := windowWork s.profile x gap (s.netOf x) s.win

/-- The engine's state after its work, and SEATING when it reports that every group has closed (R34, 03 R66). -/
def takeReport (w : WinState) (s : State) : State :=
  { s with win := w, seq := { s.seq with phase := seatingPhase s.seq.phase (everyGroupClosed s.profile w) } }

/-- What step 5 hands on: the groups classified on the sample, and the open-window count when the window engine had the
sample (03 R66, items 3 and 4). -/
structure EngineReport where
  classified : List Classified := []
  openCount : Option Nat := none
  deriving DecidableEq, Repr

/-- Step 5 in ENGAGE and SEATING: window work, SEATING, PIN_FAIL or the seat test (R34, 03 R66, R69). The count handed on
is the one after the window work, whatever an abort does to the set afterwards. -/
def engageWork (x : Sample) (gap : Nat) (s : State) : State × EngineReport :=
  let w := windowReport x gap s
  (if failedOnSample w.classified && s.dec.stopOnFail then abort .pinFail .absent (takeReport w.win s)
   else seatTest x (takeReport w.win s),
   { classified := w.classified, openCount := some w.win.openSet.length })

/-- Step 5 in APPROACH: tare, or contact (R32, R33). -/
def approachWork (x : Sample) (gap : Nat) (s : State) : State × EngineReport :=
  if x.depth < s.profile.header.contactDepth then (pushTare x s, {})
  else if s.seq.tareRing.length < 8 then (abort .tare .absent s, {})
  else engageWork x gap (takeContact x s)

/-- Step 5: the phase's own work with an advancing sample (R29). -/
def phaseWork (x : Sample) (gap : Nat) (s : State) : State × EngineReport :=
  match s.seq.phase with
  | .approach => approachWork x gap s
  | .engage | .seating => engageWork x gap s
  | .idle | .armed | .held | .retract | .aborted => (s, {})

/-- Step 6: the sample goes to the trigger unit when the phase after steps 1-5 is that of a running stroke (R29, 05 R94). -/
def handToTriggers (x : Sample) (advancing : Bool) (cs : List Classified) (s : State) : State × TrigOut :=
  if s.seq.phase.inStroke then triggerWork x.depth advancing (s.netOf x) cs s else (s, {})

/-- Steps 4 to 6 (R29). -/
def moveSample (x : Sample) (gap : Nat) (s : State) : State × TrigOut :=
  match movement x.depth s with
  | .creep => (abort .creep .absent s, {})
  | .reversal => (abort .reversal .absent s, {})
  | .still => handToTriggers x false [] s
  | .advancing =>
    let r := phaseWork x gap (advance x.depth s)
    let t := handToTriggers x true r.2.classified r.1
    (t.1, { t.2 with openCount := r.2.openCount })

/-- The six steps in APPROACH, ENGAGE, SEATING and HELD (R29). -/
def strokeSample (x : Sample) (gap : Nat) (s : State) : State × TrigOut :=
  let s1 := takePeak x (countSample s)
  match crushChannel x s1 with
  | some c => (abort .crush (.channel c) s1, {})
  | none => if overLimit s1 then (abort .tooLong .absent s1, {}) else moveSample x gap s1

/-- The retract test: the first sample above the contact depth enters IDLE (R36). -/
def retractSample (x : Sample) (s : State) : State :=
  if x.depth < s.profile.header.contactDepth then enterIdle s else s

/-- ARMED becomes APPROACH at the first accepted sample (R28). -/
def beginApproach (s : State) : State := { s with seq := { s.seq with phase := .approach } }

/-- The sequencer handles an accepted sample in the phase in which the sample finds it (R29). -/
def sequence (x : Sample) (gap : Nat) (s : State) : State × TrigOut :=
  match s.seq.phase with
  | .idle | .aborted => (s, {})
  | .retract => (retractSample x s, {})
  | .armed => strokeSample x gap (beginApproach s)
  | .approach | .engage | .seating | .held => strokeSample x gap s

end Sys2Proof.Machine
end

