-- ==== Sys2Proof/Machine/Link.lean ====
section
/-! DEFINITION. The sample link: SAMPLE_FRAME, FORWARD_FRAME, COMMAND_FRAME, RETURN_FRAME, CONTROLLER_PORT_BAD_FRAME,
TOO_LONG, CAPTURE_FREEZE, TRANSMIT_FRAME, FRAME_SENT, DROP_REPORT, and the events of the ports (09; 02 R45, R51). -/

namespace Sys2Proof.Machine

/-! ### Sample frames (R167-R170) -/

/-- How a good SAMPLE frame is classed: the gap size of an accepted one, or stale (R167). -/
def gapOf (expected : Option Byte) (seq : Byte) : Option Nat :=
  match expected with
  | none => some 0
  | some e => if (seq - e).toNat ≤ 127 then some (seq - e).toNat else none

/-- The receiver accepts a sample: expected number, missing-frame count, latest depth (R168). -/
def acceptSample (x : Sample) (gap : Nat) (s : State) : State :=
  { s with sns := { s.sns with expected := some (x.seq + 1), missing := min 4294967295 (s.sns.missing + gap)
                               latestDepth := x.depth } }

/-- The open-window count of a sample's annotation: as the window engine gave it, or as it stands for a sample that was
not handed to the engine (R170, 03 R66). -/
def annotationCount (out : TrigOut) (s : State) : Nat := out.openCount.getD s.win.openSet.length

/-- The frame as forwarded: annotated whole with the setting ON, its check computed anew (R164, R170, R180). -/
def annotated (body : List Byte) (check : Word16) (out : TrigOut) (s : State) : Frame :=
  if s.dec.annotation then
    mkFrame 0x01#8 (body.take 29
      ++ annotationBytes s.seq.phase s.line.stop s.line.hold out.marks (annotationCount out s))
  else { cls := 0x01#8, body := body, check := check }

/-- The sequencer and the capture unit take an accepted sample; a trigger's capture request comes after the entry is made
(R168, 06 R110). The marks and the open-window count are handed to the annotation. -/
def handleSample (x : Sample) (gap : Nat) (s : State) : State × TrigOut :=
  let r := sequence x gap (acceptSample x gap s)
  let s2 := recordSample (histEntry x r.1.seq.phase) r.1
  (if r.2.capture then captureRequest s2 else s2, r.2)

/-- A stale frame: counted, STALE raised, forwarded with its annotation as received (R169). -/
def staleSample (body : List Byte) (check : Word16) (s : State) : State :=
  let n := min 4294967295 (s.sns.stale + 1)
  forward { cls := 0x01#8, body := body, check := check }
    (raise .stale (.count n) { s with sns := { s.sns with stale := n } })

/-- A SAMPLE frame at the sensor port: received only while the port is UP (R163), checked (R164), classed (R167). -/
def receiveSample (body : List Byte) (check : Word16) (s : State) : State :=
  if s.live && decide (s.sns.port = .up) then
    if badForward { cls := 0x01#8, body := body, check := check } then countSensorBad s
    else
      match gapOf s.sns.expected (readSample body).seq with
      | none => staleSample body check s
      | some gap =>
        let r := handleSample (readSample body) gap s
        forward (annotated body check r.2 r.1) r.1
  else s

/-- The frame would be accepted, with this gap size (R163, R164, R167). -/
def acceptsSample (body : List Byte) (check : Word16) (s : State) : Option Nat :=
  if s.live && decide (s.sns.port = .up) && !badForward { cls := 0x01#8, body := body, check := check } then
    gapOf s.sns.expected (readSample body).seq
  else none

/-! ### The rows of the forward lane -/

/-- SAMPLE_FRAME (R167). -/
def execSampleFrame (body : List Byte) (check : Word16) (s : State) : Host.Outcome State Fault Refusal :=
  .next (receiveSample body check s)

/-- A frame on the forward lane, by its class (R165): a SAMPLE takes the sample path, any other good frame is forwarded
unchanged. -/
def receiveForward (f : Frame) (s : State) : State :=
  if f.cls = 0x01#8 then receiveSample f.body f.check s
  else if s.live && decide (s.sns.port = .up) then
    if badForward f then countSensorBad s else forward f s
  else s

/-- FORWARD_FRAME (R165). -/
def execForwardFrame (f : Frame) (s : State) : Host.Outcome State Fault Refusal := .next (receiveForward f s)

/-- The state in which step 3 of an accepted sample's handling is made, when the phase counts samples and no channel
crushes (02 R29, R38, R46). -/
def atLimitCheck (x : Sample) (gap : Nat) (s : State) : Option State :=
  let s0 := acceptSample x gap s
  let s1 := takePeak x (countSample (if s0.seq.phase = .armed then beginApproach s0 else s0))
  if s1.seq.phase.inStroke && (crushChannel x s1).isNone then some s1 else none

/-- The frame's handling finds the stroke sample count over the limit (02 R46). -/
def endsTooLong (body : List Byte) (check : Word16) (s : State) : Bool :=
  match acceptsSample body check s with
  | none => false
  | some gap => ((atLimitCheck (readSample body) gap s).map overLimit).getD false

/-- TOO_LONG (02 R46): a SAMPLE frame whose handling aborts the stroke with TOO_LONG. A frame that does not is no such
event (log 4, log 6). -/
def execTooLong (body : List Byte) (check : Word16) (s : State) : Host.Outcome State Fault Refusal :=
  .next (if endsTooLong body check s then receiveSample body check s else s)

/-- The frame's recording brings the post countdown to 0 (06 R112). -/
def endsCountdown (body : List Byte) (check : Word16) (s : State) : Bool :=
  (acceptsSample body check s).isSome && decide (s.cap.state = .counting) && decide (s.cap.countdown = 1)

/-- CAPTURE_FREEZE (06 R112): a SAMPLE frame at whose recording the ring freezes. A frame at which it does not is no such
event (log 4, log 6). -/
def execCaptureFreeze (body : List Byte) (check : Word16) (s : State) : Host.Outcome State Fault Refusal :=
  .next (if endsCountdown body check s then receiveSample body check s else s)

/-! ### The return lane (R165, R171, R172) -/

/-- A command is consumed: it joins the wait list, and is taken at once when the decoder holds none (R172, 10 R182); with
8 waiting it is discarded and counted as a bad frame (R172). -/
def consume (c : Command) (s : State) : State :=
  if s.ctl.waitList.length < 8 then settleHand { s with ctl := { s.ctl with waitList := s.ctl.waitList ++ [c] } }
  else countControllerBad s

/-- A good COMMAND frame by its destination: broadcast, matched under the unit mask, or passed through (R171). -/
def routeCommand (f : Frame) (s : State) : State :=
  let dest := commandDest f.body
  if dest = 63#6 then consume (readCommand f.body) (passThrough f s)
  else if dest &&& s.dec.unitMask = s.unitAddr &&& s.dec.unitMask then consume (readCommand f.body) s
  else passThrough f s

/-- A frame on the return lane: received only while the controller port is UP (R163), checked (R164), routed (R165). -/
def receiveReturn (f : Frame) (s : State) : State :=
  if s.live && decide (s.ctl.port = .up) then
    if badReturn f then countControllerBad s
    else if f.cls = 0x02#8 then routeCommand f s
    else passThrough f s
  else s

/-- COMMAND_FRAME (R171). -/
def execCommandFrame (body : List Byte) (check : Word16) (s : State) : Host.Outcome State Fault Refusal :=
  .next (receiveReturn { cls := 0x02#8, body := body, check := check } s)

/-- RETURN_FRAME (R165). -/
def execReturnFrame (f : Frame) (s : State) : Host.Outcome State Fault Refusal := .next (receiveReturn f s)

/-- CONTROLLER_PORT_BAD_FRAME (R164): a frame that is not bad is no such event (log 4). -/
def execControllerPortBadFrame (f : Frame) (s : State) : Host.Outcome State Fault Refusal :=
  .next (if s.live && decide (s.ctl.port = .up) && badReturn f then countControllerBad s else s)

/-! ### The transmitter (R173) -/

/-- With the port UP and the lane free, the transmitter begins to send a waiting forwarded frame, or else the head of the
insert queue, which leaves the queue (R173). -/
def beginSend (s : State) : State :=
  if s.live && decide (s.ctl.port = .up) && s.tx.lane.isNone then
    match s.tx.fwd with
    | f :: rest => { s with tx := { s.tx with lane := some (.forwarded f), fwd := rest } }
    | [] =>
      match s.tx.queue with
      | i :: rest => { s with tx := { s.tx with lane := some (.inserted i), queue := rest } }
      | [] => s
  else s

/-- TRANSMIT_FRAME (R173). -/
def execTransmitFrame (s : State) : Host.Outcome State Fault Refusal := .next (beginSend s)

/-- One when the lane carries an inserted frame. -/
def laneInserted : Option Outgoing → Nat
  | some (.inserted _) => 1
  | some (.forwarded _) | none => 0

/-- The frame on the lane has been sent to its end and the lane is free (R173). -/
def endSend (s : State) : State :=
  match s.tx.lane with
  | none => s
  | some o =>
    if s.live then
      { s with tx := { s.tx with lane := none, sent := s.tx.sent + laneInserted (some o)
                                 ctlTx := s.tx.ctlTx ++ [frameBytes o.frame] } }
    else s

/-- FRAME_SENT (R173). -/
def execFrameSent (s : State) : Host.Outcome State Fault Refusal := .next (endSend s)

/-- DROP_REPORT (07 R132). -/
def execDropReport (s : State) : Host.Outcome State Fault Refusal := .next (if s.live then reportDrop s else s)

/-! ### The ports (R162, R176, R177) -/

/-- The state of a port. -/
def State.portState (p : Port) (s : State) : PortState :=
  match p with
  | .sensor => s.sns.port
  | .controller => s.ctl.port

def setPort (p : Port) (ps : PortState) (s : State) : State :=
  match p with
  | .sensor => { s with sns := { s.sns with port := ps } }
  | .controller => { s with ctl := { s.ctl with port := ps } }

/-- A port moves along the table of R162, when it stands in the row's state. -/
def movePort (p : Port) (was becomes : PortState) (s : State) : State :=
  if s.live && decide (s.portState p = was) then setPort p becomes s else s

/-- IDLE_PATTERN_SEEN (R162). -/
def execIdlePatternSeen (p : Port) (s : State) : Host.Outcome State Fault Refusal := .next (movePort p .down .training s)

/-- TRAINING_LOST (R162): no cause is raised. -/
def execTrainingLost (p : Port) (s : State) : Host.Outcome State Fault Refusal := .next (movePort p .training .down s)

/-- A port comes UP: the sensor port's expected sequence becomes unset (R166); at the controller port the owed DROP event
frame is created at that moment (R176, log 18). -/
def portUp (p : Port) (s : State) : State :=
  match p with
  | .sensor => { s with sns := { s.sns with port := .up, expected := none } }
  | .controller => reportDrop { s with ctl := { s.ctl with port := .up } }

/-- TRAINING_COMPLETE (R162). -/
def execTrainingComplete (p : Port) (s : State) : Host.Outcome State Fault Refusal :=
  .next (if s.live && decide (s.portState p = .training) then portUp p s else s)

/-- What the sequencer does as the sensor port goes DOWN: SENSOR_LINK in every phase, then by phase (02 R51). -/
def sensorDown (s : State) : State :=
  match s.seq.phase with
  | .approach | .engage | .seating | .held => abort .sensorLink .absent s
  | .armed => enterIdle (raise .sensorLink .absent s)
  | .idle | .retract | .aborted => raise .sensorLink .absent s

/-- The loss of the sensor port: a frame being received is a bad frame, a frame being passed through is lost without count
(R177; log 13). -/
def loseSensor (arriving passing : Bool) (s : State) : State :=
  let s1 := if arriving then countSensorBad s else s
  sensorDown { s1 with sns := { s1.sns with port := .down }
                       snsTx := if passing then s1.snsTx.dropLast else s1.snsTx }

/-- SENSOR_PORT_LOSS (R177). -/
def execSensorPortLoss (arriving passing : Bool) (s : State) : Host.Outcome State Fault Refusal :=
  .next (if s.live && decide (s.sns.port = .up) then loseSensor arriving passing s else s)

/-- `n` inserted frames are lost, each counted and raising DROP (R176). -/
def dropMany : Nat → State → State
  | 0, s => s
  | n + 1, s => dropMany n (dropInserted s)

/-- The loss of the controller port, in the order of R176: the frame on the lane, the forwarded frames waiting, the insert
queue, the frame that was arriving, CONTROLLER_LINK. -/
def loseController (arriving : Bool) (s : State) : State :=
  let lost := laneInserted s.tx.lane + s.tx.queue.length
  let s1 := dropMany lost
    { s with tx := { s.tx with lane := none, fwd := [], queue := [] }, ctl := { s.ctl with port := .down } }
  raise .controllerLink .absent (if arriving then countControllerBad s1 else s1)

/-- CONTROLLER_PORT_LOSS (R176). -/
def execControllerPortLoss (arriving : Bool) (s : State) : Host.Outcome State Fault Refusal :=
  .next (if s.live && decide (s.ctl.port = .up) then loseController arriving s else s)

/-! ### The stall timer (02 R45) -/

/-- The stall timer runs out: a running stroke aborts with STALL; a stopped timer does not run out (R44, R45). -/
def expireTimer (s : State) : State := if s.live && s.seq.stallTimer.isSome then abort .stall .absent s else s

/-- STALL (02 R45). -/
def execStall (s : State) : Host.Outcome State Fault Refusal := .next (expireTimer s)

end Sys2Proof.Machine
end

