-- ==== Sys2Proof/Machine/Power.lean ====
section
/-! DEFINITION. Power, NRST, the power-on scan and the WP line (04 R89; 08 R140, R141, R153, R155). -/

namespace Sys2Proof.Machine

/-- POWER_ON (R140): every block takes its power-on state, the straps are read, the scan begins. Until NRST has risen the
part is held in reset (R89). A powered part meets no such event (log 4). -/
def execPowerOn (nrst wp locken : Bool) (addr : BitVec 6) (s : State) : Host.Outcome State Fault Refusal :=
  .next (if s.powered then s else powerUp locken addr { s with powered := true, nrstHigh := nrst, wpHigh := wp })

/-- NRST_LOW (R89): the part is held in reset, and a running operation ends where it stands (R141). -/
def execNrstLow (s : State) : Host.Outcome State Fault Refusal :=
  .next (if s.live then { cutOperation s with nrstHigh := false } else s)

/-- NRST_RISE (R140): straps re-read, volatile state reset, scan begun. -/
def execNrstRise (locken : Bool) (addr : BitVec 6) (s : State) : Host.Outcome State Fault Refusal :=
  .next (if s.powered && !s.nrstHigh then powerUp locken addr { s with nrstHigh := true } else s)

/-- POWER_OFF (R141): a running operation ends where it stands and every volatile state is lost; the model holds the
power-on values meanwhile, with no scan running (log 19). -/
def execPowerOff (s : State) : Host.Outcome State Fault Refusal :=
  .next (if s.powered then
    let t := powerUp s.lockenHigh s.unitAddr (cutOperation s)
    { t with powered := false, store := { t.store with scanRunning := false } }
  else s)

/-- The slots as the scan finds them, counted from `i` (R138, R140). -/
def scanSlots (changed : BitVec 24) : Nat → List SlotContent → List SlotContent
  | _, [] => []
  | i, c :: cs => c.found (!changed.getLsbD i) :: scanSlots changed (i + 1) cs

/-- POWER_ON_SCAN_DONE (R140): every slot is set EMPTY, VALID or CORRUPT; no cause is raised. -/
def execPowerOnScanDone (changed : BitVec 24) (s : State) : Host.Outcome State Fault Refusal :=
  .next (if s.live && s.store.scanRunning then
    let slots := scanSlots changed 0 s.store.slots
    { s with store := { s.store with slots := slots, directory := slots.map SlotContent.judged, scanRunning := false } }
  else s)

/-- WP stops a running COMMIT, ERASE, PROTECT or CLEAR PROTECT; an EDIT LOAD goes on (R155). -/
def stopWrite (s : State) : State :=
  match s.store.nvOp with
  | some (.commit slot) | some (.erase slot) =>
    nvFinish (some slot) false (some slot) (setDirectory slot .corrupt (setContent slot .broken s))
  | some (.protect slot) => nvFinish (some slot) false none s
  | some .clearProtect => nvFinish none false none s
  | some (.editLoad _) | none => s

/-- The change of lock range that a WP fall makes (R153). -/
def lockOnFall (s : State) : State := if s.store.lockTight then s else lockAll s

/-- WP_FALL (R153, R155). While the part is unpowered or held in reset only the level changes (log 19). -/
def execWpFall (s : State) : Host.Outcome State Fault Refusal :=
  .next (if s.wpHigh then
    let s1 : State := { s with wpHigh := false }
    if s.live then lockOnFall (stopWrite s1) else s1
  else s)

/-- WP_RISE (R153): no state changes but the level that the checks read. -/
def execWpRise (s : State) : Host.Outcome State Fault Refusal := .next { s with wpHigh := true }

end Sys2Proof.Machine
end

