-- ==== Sys2Proof/Machine/Completion.lean ====
section
/-! DEFINITION. The completions of non-volatile operations and of loads (08 R146, R149, R150, R154, R159, R160). An event of
an operation that does not run does not take place (log 4). -/

namespace Sys2Proof.Machine

/-- The slot becomes CORRUPT, its memory as found (R146, R149, R150, R159, R160). -/
def corruptSlot (slot : Nat) (c : SlotContent) (s : State) : State := setDirectory slot .corrupt (setContent slot c s)

/-- The verify of a COMMIT: the image and its check are in the slot when the memory took them (R149). -/
def finishCommit (slot : Nat) (took : Bool) (s : State) : State :=
  let c := s.store.buffer.written.found took
  match c.checked with
  | some img => nvFinish (some slot) true none (setDirectory slot img.entry (setContent slot c s))
  | none => nvFinish (some slot) false (some slot) (corruptSlot slot c s)

/-- COMMIT_DONE (R149). -/
def execCommitDone (took : Bool) (s : State) : Host.Outcome State Fault Refusal :=
  .next (match s.store.nvOp with
    | some (.commit slot) => if s.live then finishCommit slot took s else s
    | _ => s)

/-- The read-back of an ERASE (R150). -/
def finishErase (slot : Nat) (took : Bool) (s : State) : State :=
  if took then nvFinish (some slot) true none (setDirectory slot .empty (setContent slot .erased s))
  else nvFinish (some slot) false (some slot) (corruptSlot slot .broken s)

/-- ERASE_DONE (R150). -/
def execEraseDone (took : Bool) (s : State) : Host.Outcome State Fault Refusal :=
  .next (match s.store.nvOp with
    | some (.erase slot) => if s.live then finishErase slot took s else s
    | _ => s)

/-- The protect bits read back: ok when they hold the intended values, and each bit keeps the value read back (R154). -/
def finishProtect (slot : Option Nat) (intended readBack : BitVec 24) (s : State) : State :=
  nvFinish slot (decide (readBack = intended)) none { s with store := { s.store with protect := readBack } }

/-- PROTECT_DONE (R154): the slot's bit is set. -/
def execProtectDone (readBack : BitVec 24) (s : State) : Host.Outcome State Fault Refusal :=
  .next (match s.store.nvOp with
    | some (.protect slot) =>
      if s.live then finishProtect (some slot) (s.store.protect ||| BitVec.twoPow 24 slot) readBack s else s
    | _ => s)

/-- CLEAR_PROTECT_DONE (R154): all 24 bits are cleared. -/
def execClearProtectDone (readBack : BitVec 24) (s : State) : Host.Outcome State Fault Refusal :=
  .next (match s.store.nvOp with
    | some .clearProtect => if s.live then finishProtect none 0 readBack s else s
    | _ => s)

/-- The check of an EDIT LOAD: the buffer takes the slot's profile, or is emptied and the slot is CORRUPT (R146). -/
def finishEditLoad (slot : Nat) (intact : Bool) (s : State) : State :=
  let c := (s.content slot).found intact
  match c.checked with
  | some img => nvFinish (some slot) true none (setBuffer img.padded s)
  | none => nvFinish (some slot) false (some slot) (setBuffer Image.cleared (corruptSlot slot c s))

/-- EDIT_LOAD_DONE (R146). -/
def execEditLoadDone (intact : Bool) (s : State) : Host.Outcome State Fault Refusal :=
  .next (match s.store.nvOp with
    | some (.editLoad slot) => if s.live then finishEditLoad slot intact s else s
    | _ => s)

/-- The active tables become READY and the map is rebuilt (R159, 03 R71). -/
def activate (img : Image) (s : State) : State :=
  { s with load := { s.load with active := .ready img }, win := { s.win with map := img.freshMap } }

/-- A failed active load: active NONE with its slot absent, the slot CORRUPT, PROFILE_FAULT (R159). -/
def failActive (slot : Nat) (c : SlotContent) (s : State) : State :=
  let s1 := corruptSlot slot c s
  raise .profileFault (.slot slot) { s1 with load := { s1.load with active := .absent, activeSlot := none } }

/-- The completion of an active load (R159). -/
def finishActive (slot : Nat) (intact : Bool) (s : State) : State :=
  let c := (s.content slot).found intact
  match c.checked with
  | some img => activate img s
  | none => failActive slot c s

/-- ACTIVE_LOAD_DONE (R159). -/
def execActiveLoadDone (intact : Bool) (s : State) : Host.Outcome State Fault Refusal :=
  .next (match s.load.active, s.load.activeSlot with
    | .loading, some slot => if s.live then finishActive slot intact s else s
    | _, _ => s)

/-- The staged tables become READY; with a swap pending it is made (R160, R161). -/
def stageReady (img : Image) (s : State) : State :=
  if s.load.swapPending then swapTables img s else { s with load := { s.load with staged := .ready img } }

/-- A failed staged load: staged NONE, swap pending clear, the slot CORRUPT, PROFILE_FAULT (R160). -/
def failStaged (slot : Nat) (c : SlotContent) (s : State) : State :=
  let s1 := corruptSlot slot c s
  raise .profileFault (.slot slot)
    { s1 with load := { s1.load with staged := .absent, stagedSlot := none, swapPending := false } }

/-- The completion of a staged load (R160). -/
def finishStaged (slot : Nat) (intact : Bool) (s : State) : State :=
  let c := (s.content slot).found intact
  match c.checked with
  | some img => stageReady img s
  | none => failStaged slot c s

/-- STAGED_LOAD_DONE (R160). -/
def execStagedLoadDone (intact : Bool) (s : State) : Host.Outcome State Fault Refusal :=
  .next (match s.load.staged, s.load.stagedSlot with
    | .loading, some slot => if s.live then finishStaged slot intact s else s
    | _, _ => s)

end Sys2Proof.Machine
end

