-- ==== Sys2Proof/Machine/StrokeCommands.lean ====
section
/-! DEFINITION. The commands of the stroke sequencer and the line driver: ARM, DISARM, RESUME, CLEAR STOP (02, 04). -/

namespace Sys2Proof.Machine

/-- The answer OK with no data. -/
def okReply : Reply := { result := .ok }

/-! ### ARM (02 R26, R27) -/

/-- The check that refuses ARM, in order (R26). -/
def armRefusal (s : State) : Option Result :=
  if s.seq.phase ≠ .idle then some .state
  else if s.line.stop then some .stopped
  else if s.load.active.code ≠ 2 then some .noProfile
  else if s.load.swapPending then some .busy
  else if s.seq.strokeNumber = 4294967295 then some .state
  else none

/-- What a taken ARM does (R27): the stall timer stays stopped. -/
def beginStroke (tag : List Byte) (s : State) : State :=
  { s with
    seq := { phase := .armed, strokeNumber := s.seq.strokeNumber + 1, tag := if tag = [] then none else some tag
             contact := false }
    sns := { s.sns with missing := 0, stale := 0 }
    win := { map := s.profile.freshMap } }

/-- The sequencer's ARM. -/
def ownArm (tag : List Byte) (s : State) : Reply × State :=
  match armRefusal s with
  | some r => ({ result := r }, s)
  | none => ({ result := .ok, data := beBytes 4 (s.seq.strokeNumber + 1) }, beginStroke tag s)

/-- ARM, command 1 (R27). -/
def execArm (s : State) : Host.Outcome State Fault Refusal := .next (runCommand 1 false parseArm ownArm s)

/-! ### DISARM (02 R47) -/

/-- The sequencer's DISARM, by phase. -/
def ownDisarm (_ : Unit) (s : State) : Reply × State :=
  match s.seq.phase with
  | .idle => ({ result := .state }, s)
  | .armed | .retract | .aborted => (okReply, enterIdle s)
  | .approach | .engage | .seating | .held => (okReply, abortDisarm s)

/-- DISARM, command 2 (R47). -/
def execDisarm (s : State) : Host.Outcome State Fault Refusal := .next (runCommand 2 false parseNone ownDisarm s)

/-! ### RESUME (02 R41, 05 R103) -/

/-- What a taken RESUME does: back to the held-from phase, re-press set, hold cleared, suppress flags set. -/
def resumeStroke (s : State) : State :=
  { s with
    seq := { s.seq with phase := s.seq.heldFrom.getD .approach, rePress := true, heldFrom := none, holdDepth := none }
    line := { s.line with hold := false }
    trig := s.trig.map (Trigger.suppressAt (s.seq.holdDepth.getD 0)) }

/-- The sequencer's RESUME: taken in HELD only. -/
def ownResume (_ : Unit) (s : State) : Reply × State :=
  if s.seq.phase = .held then (okReply, resumeStroke s) else ({ result := .state }, s)

/-- RESUME, command 3 (R41). -/
def execResume (s : State) : Host.Outcome State Fault Refusal := .next (runCommand 3 false parseNone ownResume s)

/-! ### CLEAR STOP (04 R79) -/

/-- The line driver's CLEAR STOP: taken in IDLE and ABORTED, reporting the latch before. -/
def ownClearStop (_ : Unit) (s : State) : Reply × State :=
  if s.seq.phase = .idle ∨ s.seq.phase = .aborted then
    ({ result := .ok, data := beBytes 1 (flag s.line.stop) }, { s with line := { s.line with stop := false } })
  else ({ result := .state }, s)

/-- CLEAR_STOP, command 4 (R79). -/
def execClearStop (s : State) : Host.Outcome State Fault Refusal := .next (runCommand 4 false parseNone ownClearStop s)

end Sys2Proof.Machine
end

