-- ==== Sys2Proof/Machine/StoreCommands.lean ====
section
/-! DEFINITION. The commands of the profile store and loader (08): the edit buffer, COMMIT and ERASE, the protection layers,
READ DIRECTORY and SELECT. -/

namespace Sys2Proof.Machine

/-! ### Writing the edit buffer (R142-R145) -/

/-- A command that changes the buffer: BUSY while an EDIT LOAD or a COMMIT runs (R143). -/
def editReply (img : Image) (s : State) : Reply × State :=
  if s.bufferHeld then ({ result := .busy }, s) else (okReply, setBuffer img s)

/-- EDIT CLEAR empties the buffer (R144). -/
def ownEditClear (_ : Unit) (s : State) : Reply × State := editReply Image.cleared s

/-- EDIT_CLEAR, command 5 (R144). -/
def execEditClear (s : State) : Host.Outcome State Fault Refusal := .next (runCommand 5 false parseNone ownEditClear s)

/-- SET HEADER replaces the eleven fields other than the counts (R144). -/
def ownSetHeader (h : Header) (s : State) : Reply × State :=
  let b := s.store.buffer
  editReply { b with header := { h with groupCount := b.header.groupCount, pinCount := b.header.pinCount } } s

/-- SET_HEADER, command 7 (R144). -/
def execSetHeader (s : State) : Host.Outcome State Fault Refusal := .next (runCommand 7 false parseHeader ownSetHeader s)

/-- PUT GROUP replaces one group record whole (R144). -/
def ownPutGroup (a : Nat × GroupRec) (s : State) : Reply × State :=
  let b := s.store.buffer
  editReply { b with groups := b.groups.set a.1 a.2 } s

/-- PUT_GROUP, command 8 (R144). -/
def execPutGroup (s : State) : Host.Outcome State Fault Refusal := .next (runCommand 8 false parsePutGroup ownPutGroup s)

/-- A run of records replaces those from an index on, in order (R145). -/
def setRun {α : Type} : Nat → List α → List α → List α
  | _, [], xs => xs
  | i, r :: rs, xs => setRun (i + 1) rs (xs.set i r)

/-- PUT PINS (R145): BUSY before any other check of the owner (R143), RANGE for a run beyond index 639 (log 16). -/
def ownPutPins (a : Nat × List PinRec) (s : State) : Reply × State :=
  let b := s.store.buffer
  if s.bufferHeld then ({ result := .busy }, s)
  else if 640 < a.1 + a.2.length then ({ result := .range }, s)
  else (okReply, setBuffer { b with pins := setRun a.1 a.2 b.pins } s)

/-- PUT_PINS, command 9 (R145). -/
def execPutPins (s : State) : Host.Outcome State Fault Refusal := .next (runCommand 9 false parsePutPins ownPutPins s)

/-- The first `n` elements stay, the others become `a` (R15, R144). -/
def clearFrom {α : Type} (n : Nat) (a : α) (xs : List α) : List α := xs.take n ++ List.replicate (xs.length - n) a

/-- SET COUNTS sets both counts and clears the records beyond them (R144). -/
def ownSetCounts (c : Nat × Nat) (s : State) : Reply × State :=
  let b := s.store.buffer
  editReply { header := { b.header with groupCount := c.1, pinCount := c.2 }, groups := clearFrom c.1 {} b.groups
              pins := clearFrom c.2 {} b.pins } s

/-- SET_COUNTS, command 10 (R144). -/
def execSetCounts (s : State) : Host.Outcome State Fault Refusal := .next (runCommand 10 false parseCounts ownSetCounts s)

/-! ### Reading and judging the buffer (R143, R145) -/

/-- INVALID with the failing check's code and item index (09 R180). -/
def invalidReply (f : CheckFailure) : Reply := { result := .invalid, data := beBytes 1 f.check ++ itemBytes f.item }

/-- VALIDATE: taken during a COMMIT, BUSY during an EDIT LOAD (R143, R145). -/
def ownValidate (_ : Unit) (s : State) : Reply × State :=
  if s.editLoading then ({ result := .busy }, s)
  else match s.store.buffer.validate with
    | none => (okReply, s)
    | some f => (invalidReply f, s)

/-- VALIDATE, command 11 (01 R16). -/
def execValidate (s : State) : Host.Outcome State Fault Refusal := .next (runCommand 11 false parseNone ownValidate s)

/-- The records READ EDIT returns (R145, 09 R181). -/
def editBytes (b : Image) : EditPart → List Byte
  | .header => headerBytes b.header
  | .group i => groupBytes (b.groups.getD i {})
  | .pins first count => ((b.pins.drop first).take count).flatMap pinBytes

/-- READ EDIT (R145). -/
def ownReadEdit (part : EditPart) (s : State) : Reply × State :=
  if s.editLoading then ({ result := .busy }, s)
  else ({ result := .ok, data := editBytes s.store.buffer part }, s)

/-- READ_EDIT, command 14 (R145). -/
def execReadEdit (s : State) : Host.Outcome State Fault Refusal := .next (runCommand 14 false parseReadEdit ownReadEdit s)

/-! ### EDIT LOAD, COMMIT, ERASE (R146-R150) -/

/-- EDIT LOAD: NV busy, EMPTY, CORRUPT, in order (R146); a slot in WRITING is met only with NV busy set. -/
def ownEditLoad (slot : Nat) (s : State) : Reply × State :=
  if s.nvBusy then ({ result := .busy }, s)
  else match s.slotState slot with
    | .empty => ({ result := .empty }, s)
    | .corrupt => ({ result := .corrupt }, s)
    | .writing => ({ result := .busy }, s)
    | .valid _ _ _ => (okReply, setNvOp (some (.editLoad slot)) s)

/-- EDIT_LOAD, command 6 (R146). -/
def execEditLoad (s : State) : Host.Outcome State Fault Refusal := .next (runCommand 6 false parseSlot ownEditLoad s)

/-- The checks of a write to a slot: WP, unlocked set, protect bit, in use, NV busy, in order (R147, R150). -/
def writeRefusal (slot : Nat) (s : State) : Option Result :=
  if !s.wpHigh then some .locked
  else if !s.unlocked slot then some .locked
  else if s.store.protect.getLsbD slot then some .slotProtected
  else if s.inUse slot then some .inUse
  else if s.nvBusy then some .busy
  else none

/-- A write begins: the slot is WRITING and its memory partial (log 21), NV busy is set, and a READY active profile in
IDLE becomes stale (R141, R147, R148). -/
def beginWrite (op : NvOp) (slot : Nat) (s : State) : State :=
  let s1 := setNvOp (some op) (setDirectory slot .writing (setContent slot .broken s))
  { s1 with load := { s1.load with stale := s.load.stale || s.makesStale slot } }

/-- A write to a slot: refused by the first check that fails, or begun (R147, R150). -/
def startWrite (op : NvOp) (slot : Nat) (s : State) : Reply × State :=
  match writeRefusal slot s with
  | some r => ({ result := r }, s)
  | none => (okReply, beginWrite op slot s)

/-- COMMIT: EDIT LOAD running, validation, then the checks of a write (R147). -/
def ownCommit (slot : Nat) (s : State) : Reply × State :=
  if s.editLoading then ({ result := .busy }, s)
  else match s.store.buffer.validate with
    | some f => (invalidReply f, s)
    | none => startWrite (.commit slot) slot s

/-- COMMIT, command 12 (R147). -/
def execCommit (s : State) : Host.Outcome State Fault Refusal := .next (runCommand 12 false parseSlot ownCommit s)

/-- ERASE: the checks of a write (R150). -/
def ownErase (slot : Nat) (s : State) : Reply × State := startWrite (.erase slot) slot s

/-- ERASE, command 13 (R150). -/
def execErase (s : State) : Host.Outcome State Fault Refusal := .next (runCommand 13 false parseSlot ownErase s)

/-! ### READ DIRECTORY (R156) -/

/-- One directory entry in bytes (09 R181). -/
def entryBytes (d : SlotState) (prot : Bool) : List Byte :=
  match d with
  | .empty => beBytes 1 (4 * flag prot) ++ List.replicate 5 0
  | .valid id gc pc => beBytes 1 (1 + 4 * flag prot) ++ beBytes 2 id ++ beBytes 1 gc ++ beBytes 2 pc
  | .corrupt => beBytes 1 (2 + 4 * flag prot) ++ List.replicate 5 0
  | .writing => beBytes 1 (3 + 4 * flag prot) ++ List.replicate 5 0

/-- The entries from a slot on, at most `count`. -/
def directoryBytes (first count : Nat) (s : State) : List Byte :=
  (((List.range s.store.directory.length).drop first).take count).flatMap fun i =>
    entryBytes (s.slotState i) (s.store.protect.getLsbD i)

/-- READ DIRECTORY: the lock state, the WP level and the entries (R156). -/
def ownReadDirectory (a : Nat × Nat) (s : State) : Reply × State :=
  ({ result := .ok
     data := beBytes 1 s.store.lockLower ++ beBytes 1 s.store.lockUpper
       ++ beBytes 1 (flag s.store.invert + 2 * flag s.store.lockTight + 4 * flag s.wpHigh)
       ++ directoryBytes a.1 a.2 s }, s)

/-- READ_DIRECTORY, command 15 (R156). -/
def execReadDirectory (s : State) : Host.Outcome State Fault Refusal :=
  .next (runCommand 15 false parseDirectory ownReadDirectory s)

/-! ### Protection (R151-R154) -/

/-- LOCK RANGE: its refusals in order, then the three values are set (R152). -/
def ownLockRange (a : Nat × Nat × Bool) (s : State) : Reply × State :=
  if 23 < a.1 ∨ 23 < a.2.1 then ({ result := .range }, s)
  else if a.2.1 < a.1 then ({ result := .range }, s)
  else if s.store.lockTight then ({ result := .locked }, s)
  else if !s.wpHigh then ({ result := .locked }, s)
  else if s.nvBusy then ({ result := .busy }, s)
  else (okReply, { s with store := { s.store with lockLower := a.1, lockUpper := a.2.1, invert := a.2.2 } })

/-- LOCK_RANGE, command 16 (R152). -/
def execLockRange (s : State) : Host.Outcome State Fault Refusal :=
  .next (runCommand 16 false parseLockRange ownLockRange s)

/-- LOCK TIGHT sets lock-tight (R152). -/
def ownLockTight (_ : Unit) (s : State) : Reply × State :=
  (okReply, { s with store := { s.store with lockTight := true } })

/-- LOCK_TIGHT, command 17 (R152). -/
def execLockTight (s : State) : Host.Outcome State Fault Refusal := .next (runCommand 17 false parseNone ownLockTight s)

/-- PROTECT: WP, unlocked set, SVC, NV busy, in order (R154). -/
def ownProtect (svc : Bool) (slot : Nat) (s : State) : Reply × State :=
  if !s.wpHigh then ({ result := .locked }, s)
  else if !s.unlocked slot then ({ result := .locked }, s)
  else if !svc then ({ result := .service }, s)
  else if s.nvBusy then ({ result := .busy }, s)
  else (okReply, setNvOp (some (.protect slot)) s)

/-- PROTECT, command 18, with the level of SVC as it is taken (R154). -/
def execProtect (svc : Bool) (s : State) : Host.Outcome State Fault Refusal :=
  .next (runCommand 18 false parseSlot (ownProtect svc) s)

/-- CLEAR PROTECT: WP, SVC, NV busy, in order (R154). -/
def ownClearProtect (svc : Bool) (_ : Unit) (s : State) : Reply × State :=
  if !s.wpHigh then ({ result := .locked }, s)
  else if !svc then ({ result := .service }, s)
  else if s.nvBusy then ({ result := .busy }, s)
  else (okReply, setNvOp (some .clearProtect) s)

/-- CLEAR_PROTECT, command 19, with the level of SVC as it is taken (R154). -/
def execClearProtect (svc : Bool) (s : State) : Host.Outcome State Fault Refusal :=
  .next (runCommand 19 false parseNone (ownClearProtect svc) s)

/-! ### SELECT (R158-R160) -/

/-- A staged load in progress is abandoned (R159). -/
def abandonStaged (l : LoadState) : LoadState :=
  match l.staged with
  | .loading => { l with staged := .absent, stagedSlot := none, swapPending := false }
  | .absent | .ready _ => l

/-- SELECT in IDLE starts a load into the active tables; the map is emptied (R159). -/
def selectActive (slot : Nat) (s : State) : State :=
  { s with load := { abandonStaged s.load with active := .loading, activeSlot := some slot, stale := false }
           win := { s.win with map := [] } }

/-- SELECT in any other phase starts a load into the staged tables (R160). -/
def selectStaged (slot : Nat) (s : State) : State :=
  { s with load := { s.load with staged := .loading, stagedSlot := some slot } }

/-- SELECT: NV busy, WRITING, EMPTY, CORRUPT, in order, then the load by phase (R158). -/
def ownSelect (slot : Nat) (s : State) : Reply × State :=
  if s.nvBusy then ({ result := .busy }, s)
  else match s.slotState slot with
    | .writing => ({ result := .busy }, s)
    | .empty => ({ result := .empty }, s)
    | .corrupt => ({ result := .corrupt }, s)
    | .valid _ _ _ => (okReply, if s.seq.phase = .idle then selectActive slot s else selectStaged slot s)

/-- SELECT, command 20 (R158). -/
def execSelect (s : State) : Host.Outcome State Fault Refusal := .next (runCommand 20 false parseSlot ownSelect s)

end Sys2Proof.Machine
end

