-- ==== Sys2Proof/Machine/ReadCommands.lean ====
section
/-! DEFINITION. The commands of the window engine, trigger, capture, record and event units (03 R73; 05 R92, R93, R98;
06 R115-R117; 07 R126, R127, R133, R134). -/

namespace Sys2Proof.Machine

/-! ### READ VERDICTS (03 R73) -/

/-- READ VERDICTS: NOPROFILE on an empty map, RANGE beyond it, else up to 16 entries. -/
def ownReadVerdicts (a : Nat × Nat) (s : State) : Reply × State :=
  if s.win.map = [] then ({ result := .noProfile }, s)
  else if s.win.map.length ≤ a.1 then ({ result := .range }, s)
  else ({ result := .ok
          data := ((s.win.map.drop a.1).take (min a.2 16)).flatMap fun e => verdictWord e.verdict e.estimate }, s)

/-- READ_VERDICTS, command 21 (R73). -/
def execReadVerdicts (s : State) : Host.Outcome State Fault Refusal :=
  .next (runCommand 21 false parseRun ownReadVerdicts s)

/-! ### Triggers (05 R92, R93, R98) -/

/-- SET TRIGGER replaces an entry whole: its suppress flag is cleared and its hit flag left (R92). -/
def writeTrigger (i : Nat) (t : Trigger) (ts : List Trigger) : List Trigger :=
  ts.set i { t with hit := (ts.getD i {}).hit, suppress := false }

/-- SET TRIGGER answers the base as aligned (R92). -/
def ownSetTrigger (a : Nat × Trigger) (s : State) : Reply × State :=
  ({ result := .ok, data := beBytes 2 a.2.base }, { s with trig := writeTrigger a.1 a.2 s.trig })

/-- SET_TRIGGER, command 22 (R92). -/
def execSetTrigger (s : State) : Host.Outcome State Fault Refusal :=
  .next (runCommand 22 false parseTrigger ownSetTrigger s)

/-- The code of a kind (09 R181). -/
def TrigKind.code : TrigKind → Nat
  | .depth => 0
  | .force _ _ => 1
  | .verdict => 2

/-- Channel and level: FFh and 0 when absent (09 R181). -/
def TrigKind.forceBytes : TrigKind → List Byte
  | .force ch level => beBytes 1 ch ++ beInt 2 level
  | .depth | .verdict => [0xFF#8, 0, 0]

/-- One item of READ TRIGGERS, 7 bytes (09 R181). Byte 0 bit 0 and byte 1 bits 7-3 have no item and no stated value: the
model sends 0 (log 32). -/
def triggerBytes (t : Trigger) : List Byte :=
  beBytes 1 (64 * t.kind.code + 16 * t.spanCode + 8 * flag t.enable + 4 * flag t.hit + 2 * flag t.suppress)
  ++ beBytes 1 (flag t.actions.capture + 2 * flag t.actions.hold + 4 * flag t.actions.mark)
  ++ beBytes 2 t.base ++ t.kind.forceBytes

/-- READ TRIGGERS (R93). -/
def ownReadTriggers (_ : Unit) (s : State) : Reply × State :=
  ({ result := .ok, data := s.trig.flatMap triggerBytes }, s)

/-- READ_TRIGGERS, command 23 (R93). -/
def execReadTriggers (s : State) : Host.Outcome State Fault Refusal :=
  .next (runCommand 23 false parseNone ownReadTriggers s)

/-- CLEAR HITS reports the four hit flags and clears them (R98). -/
def ownClearHits (_ : Unit) (s : State) : Reply × State :=
  ({ result := .ok, data := s.trig.flatMap fun t => beBytes 1 (flag t.hit) },
   { s with trig := s.trig.map fun t => { t with hit := false } })

/-- CLEAR_HITS, command 24 (R98). -/
def execClearHits (s : State) : Host.Outcome State Fault Refusal := .next (runCommand 24 false parseNone ownClearHits s)

/-! ### Capture (06 R115-R117) -/

/-- CAPTURE NOW: TAKEN from IDLE, else MISSED, with the missed count after (R115). -/
def ownCaptureNow (_ : Unit) (s : State) : Reply × State :=
  let t := captureRequest s
  ({ result := .ok, data := beBytes 1 (if s.cap.state = .idle then 0 else 1) ++ beBytes 2 t.cap.missed }, t)

/-- CAPTURE_NOW, command 25 (R115). -/
def execCaptureNow (s : State) : Host.Outcome State Fault Refusal := .next (runCommand 25 false parseNone ownCaptureNow s)

/-- RELEASE CAPTURE ends a counting or frozen capture; the ring keeps its entries (R116). -/
def releaseCapture (s : State) : State :=
  match s.cap.state with
  | .idle => s
  | .counting => { s with cap := { s.cap with state := .idle, countdown := 0, trigPos := none } }
  | .frozen => { s with cap := { s.cap with state := .idle, trigPos := none, trigOffset := none } }

/-- RELEASE CAPTURE reports state and countdown before, and the missed count (R116). -/
def ownReleaseCapture (_ : Unit) (s : State) : Reply × State :=
  ({ result := .ok
     data := beBytes 1 s.cap.state.code ++ beBytes 2 s.cap.countdown ++ beBytes 2 s.cap.missed }, releaseCapture s)

/-- RELEASE_CAPTURE, command 26 (R116). -/
def execReleaseCapture (s : State) : Host.Outcome State Fault Refusal :=
  .next (runCommand 26 false parseNone ownReleaseCapture s)

/-- One history entry, 29 bytes (09 R181). Bit 15 of bytes 3-4 has no item and no stated value: the model sends 0 (log 32). -/
def histBytes (e : HistEntry) : List Byte :=
  e.seq :: (beBytes 2 e.depth ++ beBytes 2 (4096 * e.phase.code + e.overrange.toNat) ++ e.raw.flatMap (beInt 2))

/-- READ CAPTURE: STATE unless FROZEN, RANGE beyond the valid count, else up to 6 entries (R117). -/
def ownReadCapture (a : Nat × Nat) (s : State) : Reply × State :=
  if s.cap.state ≠ .frozen then ({ result := .state }, s)
  else if s.cap.ring.length ≤ a.1 then ({ result := .range }, s)
  else ({ result := .ok
          data := beBytes 2 s.cap.ring.length ++ itemBytes s.cap.trigOffset ++ beBytes 2 s.cap.missed
            ++ ((s.cap.ring.drop a.1).take (min a.2 6)).flatMap histBytes }, s)

/-- READ_CAPTURE, command 27 (R117). -/
def execReadCapture (s : State) : Host.Outcome State Fault Refusal :=
  .next (runCommand 27 false parseRun ownReadCapture s)

/-! ### READ RECORD (07 R126, R127) -/

/-- The summary of a record, 56 bytes (09 R181). Bits 7-4 of byte 4, presence, have no item and no stated value: the model
sends 0 (log 32). -/
def summaryBytes (r : StrokeRecord) : List Byte :=
  beBytes 4 r.strokeNumber
  ++ beBytes 1 (flag r.tag.isSome + 2 * flag r.reason.isSome + 4 * flag r.seatDepth.isSome + 8 * flag r.peak.isSome)
  ++ beBytes 1 (r.tag.getD []).length ++ padTo 16 0 (r.tag.getD []) ++ beBytes 1 r.slot ++ beBytes 2 r.profileId
  ++ beBytes 1 (StrokeOutcome.code (some r.outcome)) ++ beBytes 1 (AbortReason.code r.reason)
  ++ beBytes 2 (r.seatDepth.getD 0) ++ beInt 3 (r.peak.getD 0) ++ countsBytes r.counts ++ beBytes 2 r.failTotal
  ++ beBytes 2 r.missing ++ beBytes 2 r.stale ++ beBytes 3 r.sampleCount ++ beBytes 1 r.failList.length

/-- A page of a record: 0 the summary, p the failing entries at positions (p - 1) × 6 to p × 6 - 1 (R127). -/
def pageBytes (r : StrokeRecord) : Nat → List Byte
  | 0 => summaryBytes r
  | p + 1 => ((r.failList.drop (p * 6)).take 6).flatMap failBytes

/-- READ RECORD: RANGE when no record in the history carries the number (R126). -/
def ownReadRecord (a : Nat × Nat) (s : State) : Reply × State :=
  match s.rcd.history.find? fun r => r.strokeNumber == a.1 with
  | none => ({ result := .range }, s)
  | some r => ({ result := .ok, data := pageBytes r a.2 }, s)

/-- READ_RECORD, command 28 (R126). -/
def execReadRecord (s : State) : Host.Outcome State Fault Refusal :=
  .next (runCommand 28 false parseRecord ownReadRecord s)

/-! ### Pending causes (07 R133, R134) -/

/-- READ PENDING removes and returns the cause of highest priority and the number still pending, or NONE (R133). -/
def ownReadPending (_ : Unit) (s : State) : Reply × State :=
  match CauseSet.members s.evt.pending with
  | [] => ({ result := .ok, data := [0, 0] }, s)
  | c :: rest =>
    ({ result := .ok, data := beBytes 1 c.code ++ beBytes 1 rest.length },
     { s with evt := { s.evt with pending := CauseSet.without s.evt.pending c } })

/-- READ_PENDING, command 29 (R133). -/
def execReadPending (s : State) : Host.Outcome State Fault Refusal :=
  .next (runCommand 29 false parseNone ownReadPending s)

/-- CLEAR PENDING empties the set and returns the number removed (R134). -/
def ownClearPending (_ : Unit) (s : State) : Reply × State :=
  ({ result := .ok, data := beBytes 1 (CauseSet.size s.evt.pending) }, { s with evt := { s.evt with pending := 0 } })

/-- CLEAR_PENDING, command 30 (R134). -/
def execClearPending (s : State) : Host.Outcome State Fault Refusal :=
  .next (runCommand 30 false parseNone ownClearPending s)

end Sys2Proof.Machine
end

