-- ==== Sys2Proof/Machine/DecoderCommands.lean ====
section
/-! DEFINITION. The decoder's own commands: READ STATUS, READ IDENT, GET SETTING, SET SETTING, RESET UNIT (10). -/

namespace Sys2Proof.Machine

/-! ### READ STATUS and READ IDENT (R189, R190) -/

/-- A slot in one byte: FFh when absent (R189). -/
def slotByte (slot : Option Nat) : List Byte := beBytes 1 (slot.getD 255)

/-- The 21 bytes of status, gathered at one moment (R189). 01 R2 says that status reports the profile id too, and this
layout has no byte for it: the model follows the layout, and the id is reported by directory and record (log 30). Bits 7-4
of byte 16 have no item and no stated value: the model sends 0 (log 32). -/
def statusBytes (s : State) : List Byte :=
  beBytes 1 s.seq.phase.code
  ++ beBytes 1 (flag s.store.scanRunning + 2 * flag s.nvBusy + 4 * flag s.line.stop + 8 * flag s.line.hold
      + 16 * flag s.load.stale + 32 * flag s.load.swapPending)
  ++ slotByte s.load.activeSlot ++ beBytes 1 s.load.active.code ++ slotByte s.load.stagedSlot
  ++ beBytes 1 s.load.staged.code ++ beBytes 1 (StrokeOutcome.code s.rcd.last)
  ++ beBytes 1 (StrokeOutcome.code s.rcd.previous) ++ beBytes 1 s.cap.state.code
  ++ beBytes 1 (CauseSet.size s.evt.pending) ++ beBytes 2 s.tx.drop ++ beBytes 2 s.sns.bad ++ beBytes 2 s.ctl.bad
  ++ beBytes 1 (4 * s.sns.port.code + s.ctl.port.code) ++ beBytes 4 s.seq.strokeNumber

/-- READ STATUS (R189). -/
def ownReadStatus (_ : Unit) (s : State) : Reply × State := ({ result := .ok, data := statusBytes s }, s)

/-- READ_STATUS, command 31, taken while the scan runs too (R189). -/
def execReadStatus (s : State) : Host.Outcome State Fault Refusal := .next (runCommand 31 true parseNone ownReadStatus s)

/-- The 21 bytes of identity: part code 4180h, revision 1, straps, serial number and its complement (R190). -/
def identBytes (s : State) : List Byte :=
  [0x41#8, 0x80#8, 1] ++ beBytes 1 s.unitAddr.toNat ++ beBytes 1 (flag s.lockenHigh)
  ++ beBytes 8 Config.serial.toNat ++ beBytes 8 (~~~Config.serial).toNat

/-- READ IDENT (R190). -/
def ownReadIdent (_ : Unit) (s : State) : Reply × State := ({ result := .ok, data := identBytes s }, s)

/-- READ_IDENT, command 32, taken while the scan runs too (R190). -/
def execReadIdent (s : State) : Host.Outcome State Fault Refusal := .next (runCommand 32 true parseNone ownReadIdent s)

/-! ### Settings (R186-R188) -/

/-- The value held, coded as in R186. -/
def settingValue (k : Setting) (s : State) : Nat :=
  match k with
  | .unitMask => s.dec.unitMask.toNat
  | .stallTimeout => s.dec.stallTimeout
  | .strokeLimit => s.dec.strokeLimit
  | .alarmMode => flag (decide (s.evt.alarmMode = .safety))
  | .alarmMask => s.evt.alarmMask.toNat
  | .eventMask => s.evt.eventMask.toNat
  | .stepMode => flag s.dec.stepMode
  | .stopOnFail => flag s.dec.stopOnFail
  | .postCount => s.dec.postCount
  | .annotation => flag s.dec.annotation

/-- The value applied: the nearer bound, 1 for a choice above 1, bits 0-18 of a mask (R187). -/
def clampSetting (k : Setting) (v : Nat) : Nat :=
  match k with
  | .unitMask => min 63 v
  | .stallTimeout => min 255 v
  | .strokeLimit => max 1 (min 1023 v)
  | .postCount => min 511 v
  | .alarmMode | .stepMode | .stopOnFail | .annotation => min 1 v
  | .alarmMask | .eventMask => v % 2 ^ 19

/-- A setting takes a value within its range. Removing DROP from the event-frame mask clears the drop report owed flag
(R187, 07 R132). -/
def applySetting (k : Setting) (v : Nat) (s : State) : State :=
  match k with
  | .unitMask => { s with dec := { s.dec with unitMask := BitVec.ofNat 6 v } }
  | .stallTimeout => { s with dec := { s.dec with stallTimeout := v } }
  | .strokeLimit => { s with dec := { s.dec with strokeLimit := v } }
  | .alarmMode => { s with evt := { s.evt with alarmMode := if v = 0 then .pending else .safety } }
  | .alarmMask => { s with evt := { s.evt with alarmMask := BitVec.ofNat 19 v } }
  | .eventMask =>
    { s with evt := { s.evt with
        eventMask := BitVec.ofNat 19 v
        dropOwed := if CauseSet.has (BitVec.ofNat 19 v) .drop then s.evt.dropOwed else none } }
  | .stepMode => { s with dec := { s.dec with stepMode := decide (v ≠ 0) } }
  | .stopOnFail => { s with dec := { s.dec with stopOnFail := decide (v ≠ 0) } }
  | .postCount => { s with dec := { s.dec with postCount := v } }
  | .annotation => { s with dec := { s.dec with annotation := decide (v ≠ 0) } }

/-- GET SETTING answers the number and the value held (R188). -/
def ownGetSetting (k : Setting) (s : State) : Reply × State :=
  ({ result := .ok, data := beBytes 1 k.number ++ beBytes 3 (settingValue k s) }, s)

/-- GET_SETTING, command 33 (R188). -/
def execGetSetting (s : State) : Host.Outcome State Fault Refusal :=
  .next (runCommand 33 false parseGetSetting ownGetSetting s)

/-- SET SETTING clamps, applies, and answers the number, the value applied and whether it was clamped (R187). The rule says
"four data bytes" and lists five: the model answers the five it lists (log 31). -/
def ownSetSetting (a : Setting × Nat) (s : State) : Reply × State :=
  let v := clampSetting a.1 a.2
  ({ result := .ok
     data := beBytes 1 a.1.number ++ beBytes 3 v ++ beBytes 1 (flag (decide (v ≠ a.2))) }, applySetting a.1 v s)

/-- SET_SETTING, command 34 (R187). -/
def execSetSetting (s : State) : Host.Outcome State Fault Refusal :=
  .next (runCommand 34 false parseSetSetting ownSetSetting s)

/-! ### RESET UNIT (R191) -/

/-- RESET UNIT: STATE outside IDLE, BUSY while NV busy, else the soft reset (R191, R192). -/
def ownResetUnit (_ : Unit) (s : State) : Reply × State :=
  if s.seq.phase ≠ .idle then ({ result := .state }, s)
  else if s.nvBusy then ({ result := .busy }, s)
  else (okReply, softReset s)

/-- RESET_UNIT, command 35 (R191). -/
def execResetUnit (s : State) : Host.Outcome State Fault Refusal := .next (runCommand 35 false parseNone ownResetUnit s)

end Sys2Proof.Machine
end

