-- ==== Sys2Proof/Machine/Dispatch.lean ====
section
/-! DEFINITION. The dispatch: each command of the table to its meaning. -/

namespace Sys2Proof.Machine

/-- The effect of a command on everything but the queue. -/
def exec (i : Instr) (s : State) : Host.Outcome State Fault Refusal :=
  match i with
  | .powerOn nrst wp locken addr => Sys2Proof.Machine.execPowerOn nrst wp locken addr s
  | .nrstLow => Sys2Proof.Machine.execNrstLow s
  | .nrstRise locken addr => Sys2Proof.Machine.execNrstRise locken addr s
  | .powerOnScanDone changed => Sys2Proof.Machine.execPowerOnScanDone changed s
  | .sampleFrame body check => Sys2Proof.Machine.execSampleFrame body check s
  | .forwardFrame f => Sys2Proof.Machine.execForwardFrame f s
  | .commandFrame body check => Sys2Proof.Machine.execCommandFrame body check s
  | .returnFrame f => Sys2Proof.Machine.execReturnFrame f s
  | .transmitFrame => Sys2Proof.Machine.execTransmitFrame s
  | .dropReport => Sys2Proof.Machine.execDropReport s
  | .idlePatternSeen p => Sys2Proof.Machine.execIdlePatternSeen p s
  | .trainingComplete p => Sys2Proof.Machine.execTrainingComplete p s
  | .trainingLost p => Sys2Proof.Machine.execTrainingLost p s
  | .sensorPortLoss arriving passing => Sys2Proof.Machine.execSensorPortLoss arriving passing s
  | .controllerPortLoss arriving => Sys2Proof.Machine.execControllerPortLoss arriving s
  | .stall => Sys2Proof.Machine.execStall s
  | .tooLong body check => Sys2Proof.Machine.execTooLong body check s
  | .captureFreeze body check => Sys2Proof.Machine.execCaptureFreeze body check s
  | .commitDone took => Sys2Proof.Machine.execCommitDone took s
  | .eraseDone took => Sys2Proof.Machine.execEraseDone took s
  | .protectDone readBack => Sys2Proof.Machine.execProtectDone readBack s
  | .clearProtectDone readBack => Sys2Proof.Machine.execClearProtectDone readBack s
  | .editLoadDone intact => Sys2Proof.Machine.execEditLoadDone intact s
  | .activeLoadDone intact => Sys2Proof.Machine.execActiveLoadDone intact s
  | .stagedLoadDone intact => Sys2Proof.Machine.execStagedLoadDone intact s
  | .wpFall => Sys2Proof.Machine.execWpFall s
  | .arm => Sys2Proof.Machine.execArm s
  | .disarm => Sys2Proof.Machine.execDisarm s
  | .resume => Sys2Proof.Machine.execResume s
  | .clearStop => Sys2Proof.Machine.execClearStop s
  | .editClear => Sys2Proof.Machine.execEditClear s
  | .editLoad => Sys2Proof.Machine.execEditLoad s
  | .setHeader => Sys2Proof.Machine.execSetHeader s
  | .putGroup => Sys2Proof.Machine.execPutGroup s
  | .putPins => Sys2Proof.Machine.execPutPins s
  | .setCounts => Sys2Proof.Machine.execSetCounts s
  | .validate => Sys2Proof.Machine.execValidate s
  | .commit => Sys2Proof.Machine.execCommit s
  | .erase => Sys2Proof.Machine.execErase s
  | .readEdit => Sys2Proof.Machine.execReadEdit s
  | .readDirectory => Sys2Proof.Machine.execReadDirectory s
  | .lockRange => Sys2Proof.Machine.execLockRange s
  | .lockTight => Sys2Proof.Machine.execLockTight s
  | .protect svc => Sys2Proof.Machine.execProtect svc s
  | .clearProtect svc => Sys2Proof.Machine.execClearProtect svc s
  | .select => Sys2Proof.Machine.execSelect s
  | .readVerdicts => Sys2Proof.Machine.execReadVerdicts s
  | .setTrigger => Sys2Proof.Machine.execSetTrigger s
  | .readTriggers => Sys2Proof.Machine.execReadTriggers s
  | .clearHits => Sys2Proof.Machine.execClearHits s
  | .captureNow => Sys2Proof.Machine.execCaptureNow s
  | .releaseCapture => Sys2Proof.Machine.execReleaseCapture s
  | .readCapture => Sys2Proof.Machine.execReadCapture s
  | .readRecord => Sys2Proof.Machine.execReadRecord s
  | .readPending => Sys2Proof.Machine.execReadPending s
  | .clearPending => Sys2Proof.Machine.execClearPending s
  | .readStatus => Sys2Proof.Machine.execReadStatus s
  | .readIdent => Sys2Proof.Machine.execReadIdent s
  | .getSetting => Sys2Proof.Machine.execGetSetting s
  | .setSetting => Sys2Proof.Machine.execSetSetting s
  | .resetUnit => Sys2Proof.Machine.execResetUnit s
  | .wpRise => Sys2Proof.Machine.execWpRise s
  | .powerOff => Sys2Proof.Machine.execPowerOff s
  | .controllerPortBadFrame f => Sys2Proof.Machine.execControllerPortBadFrame f s
  | .frameSent => Sys2Proof.Machine.execFrameSent s

end Sys2Proof.Machine
end

