-- ==== Sys2Proof/Safety.lean ====
section
/-! DEFINITION. The words in which claims are stated: the taking of a command, its answer, and the invariants of the part. -/

namespace Sys2Proof

/-- The number of the command a row takes (10 section 10.7); the other rows are no commands. -/
def Instr.commandNumber : Instr → Option Nat
  | .arm => some 1 | .disarm => some 2 | .resume => some 3 | .clearStop => some 4 | .editClear => some 5
  | .editLoad => some 6 | .setHeader => some 7 | .putGroup => some 8 | .putPins => some 9 | .setCounts => some 10
  | .validate => some 11 | .commit => some 12 | .erase => some 13 | .readEdit => some 14 | .readDirectory => some 15
  | .lockRange => some 16 | .lockTight => some 17 | .protect _ => some 18 | .clearProtect _ => some 19
  | .select => some 20 | .readVerdicts => some 21 | .setTrigger => some 22 | .readTriggers => some 23
  | .clearHits => some 24 | .captureNow => some 25 | .releaseCapture => some 26 | .readCapture => some 27
  | .readRecord => some 28 | .readPending => some 29 | .clearPending => some 30 | .readStatus => some 31
  | .readIdent => some 32 | .getSetting => some 33 | .setSetting => some 34 | .resetUnit => some 35
  | _ => none

end Sys2Proof

namespace Sys2Proof.Machine

/-! ### Taking a command (10 R182, R184, R185) -/

/-- The decoder of a running part holds command `c`, whose byte is `n` (R182, R183). -/
def State.holds (n : Nat) (c : Command) (s : State) : Prop :=
  s.live = true ∧ s.dec.hand = some c ∧ c.number.toNat = n

/-- It holds `c`, and no scan stands in the way (R184, check 3). -/
def State.takes (n : Nat) (c : Command) (s : State) : Prop := s.holds n c ∧ s.store.scanRunning = false

/-- The end of a command (R182, R185): its response is handed over, and the decoder takes the next. -/
def answered (c : Command) (r : Reply) (s : State) : State := releaseHand (respond c r s)

/-- A refusal (R185): a result without data, and no other effect. -/
def refusedWith (c : Command) (r : Result) (s : State) : State := answered c { result := r } s

/-- The arguments fit a form of command `n`, each inside its field (R184, check 2). -/
def argumentsFit (n : Nat) (args : List Byte) : Bool :=
  match n with
  | 1 => (parseArm args).isSome
  | 6 | 12 | 13 | 18 | 20 => (parseSlot args).isSome
  | 7 => (parseHeader args).isSome
  | 8 => (parsePutGroup args).isSome
  | 9 => (parsePutPins args).isSome
  | 10 => (parseCounts args).isSome
  | 14 => (parseReadEdit args).isSome
  | 15 => (parseDirectory args).isSome
  | 16 => (parseLockRange args).isSome
  | 21 | 27 => (parseRun args).isSome
  | 22 => (parseTrigger args).isSome
  | 28 => (parseRecord args).isSome
  | 33 => (parseGetSetting args).isSome
  | 34 => (parseSetSetting args).isSome
  | _ => (parseNone args).isSome

/-! ### Invariants -/

/-- The lines and the phase (04 R78, R82; 02 R44): the stop latch is set in ABORTED and IDLE only; the hold state is set
exactly in HELD; the stall timer runs in a running stroke only; HELD has a phase to resume to. -/
def LinesFollowPhase (s : State) : Prop :=
  (s.line.stop = true → s.seq.phase = .aborted ∨ s.seq.phase = .idle)
  ∧ (s.line.hold = true ↔ s.seq.phase = .held)
  ∧ (s.seq.stallTimer.isSome = true → s.seq.phase.inStroke = true)
  ∧ (s.seq.phase = .held →
      s.seq.heldFrom = some .approach ∨ s.seq.heldFrom = some .engage ∨ s.seq.heldFrom = some .seating)

/-- The law of R175: every inserted frame created since the last reset has been sent, is being sent, is waiting, or is
counted in the drop counter, until that saturates; and the queue holds at most 32, none at a port not UP. -/
def LedgerBalances (s : State) : Prop :=
  (∃ dropped, s.tx.created = s.tx.sent + laneInserted s.tx.lane + s.tx.queue.length + dropped
    ∧ s.tx.drop = min 65535 dropped)
  ∧ s.tx.queue.length ≤ 32
  ∧ (s.ctl.port ≠ .up → s.tx.queue = [] ∧ s.tx.lane = none ∧ s.tx.fwd = [])

/-- A slot that passes its check holds a profile that passes validation (08 R146, R149). -/
def SlotContent.validated (c : SlotContent) : Prop := ∀ img, c.checked = some img → img.validate = none

/-- Tables that are READY hold a profile that passes validation (08 R149). -/
def Tables.validated : Tables → Prop
  | .ready img => img.validate = none
  | .absent | .loading => True

/-- The law of R149, with what it rests on: the slots, and the buffer while a COMMIT runs. -/
def ProfilesValidated (s : State) : Prop :=
  (∀ c ∈ s.store.slots, c.validated)
  ∧ (∀ slot, s.store.nvOp = some (.commit slot) → s.store.buffer.validate = none)
  ∧ s.load.active.validated ∧ s.load.staged.validated

/-- The law of R124: at most 8 records, by strictly increasing stroke number, none above the current number, and none of
a stroke that is armed or running. -/
def HistoryOrdered (s : State) : Prop :=
  s.rcd.history.length ≤ 8
  ∧ (s.rcd.history.map StrokeRecord.strokeNumber).Pairwise (· < ·)
  ∧ (∀ r ∈ s.rcd.history, r.strokeNumber ≤ s.seq.strokeNumber)
  ∧ (s.seq.phase = .armed ∨ s.seq.phase.inStroke = true → ∀ r ∈ s.rcd.history, r.strokeNumber < s.seq.strokeNumber)

/-- The tables and the map follow the phase (02 R27; 03 R71, R75; 08 R161): outside IDLE the active tables are READY; a
swap is pending in IDLE only, with a staged load running; tables that stand have a slot; the map has the active profile's
pins. -/
def TablesFollowPhase (s : State) : Prop :=
  (s.seq.phase ≠ .idle → s.load.active.code = 2)
  ∧ (s.load.swapPending = true → s.seq.phase = .idle ∧ s.load.staged = .loading)
  ∧ (s.load.active ≠ .absent ↔ s.load.activeSlot.isSome = true)
  ∧ (s.load.staged ≠ .absent ↔ s.load.stagedSlot.isSome = true)
  ∧ s.win.map.length = s.profile.livePins.length

/-- The collections and counters stay within their capacities (02 R24, R25, 03 R52, 06 R107, 08 R138, R142, R151, 09 R164,
R166, R172, 10 R186). A stroke that goes on has counted at most 1,023 times 1,024 samples (R46). -/
def WithinBounds (s : State) : Prop :=
  s.seq.tareRing.length ≤ 32 ∧ s.win.failList.length ≤ 48 ∧ s.trig.length = 4
  ∧ s.cap.ring.length ≤ 512 ∧ s.cap.countdown ≤ 511 ∧ s.cap.missed ≤ 65535
  ∧ s.sns.bad ≤ 65535 ∧ s.ctl.bad ≤ 65535 ∧ s.ctl.waitList.length ≤ 8
  ∧ s.store.slots.length = 24 ∧ s.store.directory.length = 24 ∧ s.store.lockLower ≤ 23 ∧ s.store.lockUpper ≤ 23
  ∧ 1 ≤ s.dec.strokeLimit ∧ s.dec.strokeLimit ≤ 1023 ∧ s.dec.stallTimeout ≤ 255 ∧ s.dec.postCount ≤ 511
  ∧ s.seq.strokeNumber ≤ 4294967295 ∧ s.sns.missing ≤ 4294967295 ∧ s.sns.stale ≤ 4294967295
  ∧ s.seq.sampleCount ≤ 1047553
  ∧ (s.seq.phase = .armed ∨ s.seq.phase.inStroke = true → s.seq.sampleCount ≤ 1047552)
  ∧ s.store.buffer.groups.length = 96 ∧ s.store.buffer.pins.length = 640
  ∧ (∀ img k, SlotContent.image img k ∈ s.store.slots → img.groups.length ≤ 96 ∧ img.pins.length ≤ 640)

/-- The open windows follow the stroke (02 R34; 03 R53, R54, R61, R62, R72): none is open outside a running stroke, nor
once every group has closed; those that are open are at most 8, of different groups in index order, groups that the cursor
has passed, and each contains the high-water depth. -/
def WindowsFollowStroke (s : State) : Prop :=
  (s.seq.phase.inStroke = false → s.win.openSet = [])
  ∧ (s.seq.phase = .seating ∨ (s.seq.phase = .held ∧ s.seq.heldFrom = some .seating) →
      s.win.openSet = [] ∧ s.win.cursor = s.profile.header.groupCount)
  ∧ s.win.openSet.length ≤ 8
  ∧ (s.win.openSet.map WinEntry.group).Pairwise (· < ·)
  ∧ (∀ e ∈ s.win.openSet, e.group < s.win.cursor ∧ e.group < s.profile.liveGroups.length
      ∧ (s.profile.groupAt e.group).start ≤ s.seq.highWater
      ∧ s.seq.highWater < (s.profile.groupAt e.group).windowEnd)

/-! ### Validation in the words of R16-R23 -/

/-- The part of check `n` that concerns the header alone (01 R17, R20, R23). -/
def Image.headerPasses (n : Nat) (img : Image) : Prop :=
  let h := img.header
  match n with
  | 1 => 1 ≤ h.channelCount ∧ h.channelCount ≤ 12
  | 2 => 1 ≤ h.groupCount ∧ h.groupCount ≤ 96
  | 3 => 1 ≤ h.pinCount ∧ h.pinCount ≤ 640
  | 9 => h.seatMin ≤ h.seatMax
  | 14 => 2 ≤ h.minSamples
  | 15 => h.backlash ≤ 255 ∧ h.gapTolerance ≤ 15
  | _ => True

/-- Item `k` fails check `n`: a group of the group list for checks 4 to 10 and 12, a pin of the pin table for 11 and 13
(01 R18-R22). -/
def Image.itemFails (n k : Nat) (img : Image) : Prop :=
  let h := img.header
  let gs := img.groups.take h.groupCount
  let ps := img.pins.take h.pinCount
  let group (p : GroupRec → Prop) : Prop := ∃ g, gs[k]? = some g ∧ p g
  match n with
  | 4 => group fun g => ∃ j a, j + 1 = k ∧ gs[j]? = some a ∧ g.start < a.start
  | 5 => group fun g => g.length = 0 ∨ 4095 < g.length
  | 6 => group fun g => g.channels = 0 ∨ ∃ c, g.channels.getLsbD c = true ∧ h.channelCount ≤ c
  | 7 => group fun g => g.perPinMin ≤ h.floor ∨ g.perPinMax < g.perPinMin
  | 8 => group fun g => k = 0 ∧ g.start ≤ h.contactDepth
  | 9 => group fun g => h.seatMin < g.start + g.length
  | 10 => group fun g => 8 < (gs.filter fun o => decide (o.start ≤ g.start ∧ g.start < o.start + o.length)).length
  | 11 => ∃ p i, ps[k]? = some p ∧ p.assign = .group i ∧ h.groupCount ≤ i
  | 12 => k < h.groupCount ∧ ∀ p ∈ ps, p.assign ≠ .group k
  | 13 => ∃ p j q, ps[k]? = some p ∧ j < k ∧ ps[j]? = some q ∧ q.row = p.row ∧ q.col = p.col
  | _ => False

/-- Check `n` passes. -/
def Image.passes (n : Nat) (img : Image) : Prop := img.headerPasses n ∧ ∀ k, ¬ img.itemFails n k

end Sys2Proof.Machine
end

