-- ==== Sys2Proof/Certificates/Slice0/Obligations.lean ====
section
/-! DEFINITION. The statements for the provers. -/

section

open Sys2Proof Sys2Proof.Machine

/-! ### The queue and the step -/

/-- A step runs the command at the front of the queue on the state with the queue's rest; with an empty queue it idles,
which is the model's choice (log 1). -/
def Obligations.StepRunsFrontCommand : Prop :=
  (∀ (c : Instr) (rest : List Instr) (s : State), s.pending = c :: rest → step s = exec c { s with pending := rest })
  ∧ (∀ s : State, s.pending = [] → step s = .next s)

/-- No command stops the part, and none touches the queue. The queue is the model's own (log 1), and a row that the state does
not admit goes on with nothing changed, by the model's choice (log 4). -/
def Obligations.EveryCommandGoesOn : Prop :=
  ∀ (c : Instr) (s : State), ∃ t, exec c s = .next t ∧ t.pending = s.pending

/-! ### Reset and the invariants -/

/-- What the spec gives for power-on: 02 R24, 03 R52, 04 R76, R84, 05 R90, R91, 06 R107, 07 R120, R128, 08 R140, R157,
09 R162, R166, R172, R173, 10 R182, R186. -/
def Obligations.ResetIsPowerOnState : Prop :=
  let s := State.reset
  (s.seq.phase = .idle ∧ s.seq.strokeNumber = 0 ∧ s.seq.tag = none ∧ s.seq.highWater = 0 ∧ s.seq.heldFrom = none
    ∧ s.seq.holdDepth = none ∧ s.seq.rePress = false ∧ s.seq.tareRing = [] ∧ s.seq.baselines = List.replicate 12 0
    ∧ s.seq.contact = false ∧ s.seq.peak = none ∧ s.seq.stallTimer = none ∧ s.seq.sampleCount = 0)
  ∧ (s.win.openSet = [] ∧ s.win.cursor = 0 ∧ s.win.map = [] ∧ s.win.failTotal = 0 ∧ s.win.failList = [])
  ∧ (s.line.stop = false ∧ s.line.hold = false)
  ∧ s.trig = List.replicate 4 { kind := .depth, spanCode := 0, base := 0, enable := false, hit := false, suppress := false }
  ∧ (s.cap.ring = [] ∧ s.cap.state = .idle ∧ s.cap.countdown = 0 ∧ s.cap.trigPos = none ∧ s.cap.trigOffset = none
    ∧ s.cap.missed = 0)
  ∧ (s.rcd.history = [] ∧ s.rcd.last = none ∧ s.rcd.previous = none)
  ∧ (s.evt.pending = 0 ∧ s.evt.eventMask = 0x7FFFF#19 ∧ s.evt.alarmMode = .pending ∧ s.evt.alarmMask = 0x7FF#19
    ∧ s.evt.dropOwed = none)
  ∧ (s.sns.port = .down ∧ s.sns.expected = none ∧ s.sns.missing = 0 ∧ s.sns.stale = 0 ∧ s.sns.latestDepth = 0
    ∧ s.sns.bad = 0)
  ∧ (s.ctl.port = .down ∧ s.ctl.bad = 0 ∧ s.ctl.waitList = [] ∧ s.tx.queue = [] ∧ s.tx.drop = 0)
  ∧ (s.store.buffer = Image.cleared ∧ s.store.lockTight = false ∧ s.store.nvOp = none ∧ s.store.scanRunning = true)
  ∧ (s.load.active = .absent ∧ s.load.activeSlot = none ∧ s.load.stale = false ∧ s.load.staged = .absent
    ∧ s.load.stagedSlot = none ∧ s.load.swapPending = false)
  ∧ (s.dec.hand = none ∧ s.dec.unitMask = 63#6 ∧ s.dec.stallTimeout = 20 ∧ s.dec.strokeLimit = 256
    ∧ s.dec.stepMode = false ∧ s.dec.stopOnFail = false ∧ s.dec.postCount = 256 ∧ s.dec.annotation = true)

/-- The seven invariants hold right after power-on; that every slot then holds a valid profile rests on the model's erased
slots (log 7). -/
def Obligations.InvariantsHoldAtReset : Prop :=
  LinesFollowPhase State.reset ∧ LedgerBalances State.reset ∧ HistoryOrdered State.reset
  ∧ ProfilesValidated State.reset ∧ TablesFollowPhase State.reset ∧ WithinBounds State.reset
  ∧ WindowsFollowStroke State.reset

/-- Whenever the stop latch is set the phase is ABORTED or IDLE, the hold state is set exactly while the phase is HELD, and
the stall timer runs in a running stroke only: every step keeps this. -/
def Obligations.StepKeepsLinesFollowPhase : Prop :=
  ∀ s t : State, LinesFollowPhase s → step s = .next t → LinesFollowPhase t

/-- Every inserted frame created since the last reset is sent, being sent, waiting or counted as dropped: every step keeps
this. It is kept in the model's own counters of frames created and sent, which a soft reset starts anew with the inserted
frame on the lane (log 12). -/
def Obligations.StepKeepsLedger : Prop := ∀ s t : State, LedgerBalances s → step s = .next t → LedgerBalances t

/-- The history holds at most 8 records by strictly increasing stroke number: every step keeps this, where the stall timer
runs in running strokes only. -/
def Obligations.StepKeepsHistoryOrdered : Prop :=
  ∀ s t : State, LinesFollowPhase s → HistoryOrdered s → step s = .next t → HistoryOrdered t

/-- Every profile the tables hold while READY passes validation: every step keeps this. -/
def Obligations.StepKeepsProfilesValidated : Prop :=
  ∀ s t : State, ProfilesValidated s → step s = .next t → ProfilesValidated t

/-- Outside IDLE the active tables are READY, a swap is pending in IDLE only, and the map has the active profile's pins:
every step keeps this, where the stall timer runs in running strokes only. -/
def Obligations.StepKeepsTablesFollowPhase : Prop :=
  ∀ s t : State, LinesFollowPhase s → TablesFollowPhase s → step s = .next t → TablesFollowPhase t

/-- The collections and counters stay within their capacities: every step keeps this. The open windows follow the stroke
and are at most 8: every step keeps this, where the lines and the tables follow the phase and the profiles are validated. -/
def Obligations.StepKeepsWithinBounds : Prop :=
  (∀ s t : State, WithinBounds s → step s = .next t → WithinBounds t)
  ∧ (∀ s t : State, LinesFollowPhase s → TablesFollowPhase s → ProfilesValidated s → WindowsFollowStroke s →
      step s = .next t → WindowsFollowStroke t)

/-- The stop latch, once set, is cleared by CLEAR STOP, by a soft reset and by power-on or NRST only; that POWER_OFF shows it
clear is the model's choice of what an unpowered part holds (log 19). -/
def Obligations.StopLatchClearedOnlyBy : Prop :=
  ∀ (c : Instr) (s t : State), s.line.stop = true → exec c s = .next t → t.line.stop = false →
    c = .clearStop ∨ c = .resetUnit ∨ c = .powerOff ∨ (∃ nrst wp locken addr, c = .powerOn nrst wp locken addr)
    ∨ (∃ locken addr, c = .nrstRise locken addr)

/-! ### Taking and answering a command -/

/-- The decoder's checks: arguments that fit no form or lie outside their field are refused RANGE; during the scan every
command but READ STATUS and READ IDENT is refused BUSY; neither reaches the owner. -/
def Obligations.GeneralChecksRefuse : Prop :=
  ∀ (i : Instr) (n : Nat) (c : Command) (s : State), i.commandNumber = some n → s.holds n c →
    (argumentsFit n c.args = false → exec i s = .next (refusedWith c .range s))
    ∧ (argumentsFit n c.args = true → s.store.scanRunning = true → n ≠ 31 → n ≠ 32 →
        exec i s = .next (refusedWith c .busy s))

/-- A frame handed over joins the end of the queue when the port is UP and the queue holds fewer than 32; else it is
discarded, the drop counter rises by one up to 65,535, and DROP is raised: pending, and its report owed when the mask holds
it, with the items of the raising that set the flag (log 18). Any other cause raised is pending; when the event-frame mask
holds it, its event frame is handed over, pending already or not. -/
def Obligations.HandOverAndRaise : Prop :=
  (∀ (i : Inserted) (s : State),
      (s.ctl.port = .up → s.tx.queue.length < 32 →
        handOver i s = { s with tx := { s.tx with queue := s.tx.queue ++ [i], created := s.tx.created + 1 } })
      ∧ (s.ctl.port ≠ .up ∨ 32 ≤ s.tx.queue.length →
        handOver i s = { s with
          tx := { s.tx with drop := min 65535 (s.tx.drop + 1), created := s.tx.created + 1 }
          evt := { s.evt with
            pending := CauseSet.with s.evt.pending .drop
            dropOwed := match s.evt.dropOwed with
              | some d => some d
              | none => if CauseSet.has s.evt.eventMask .drop = true then
                  some { strokeNumber := s.seq.strokeNumber, depth := s.sns.latestDepth } else none } }))
  ∧ (∀ (c : Cause) (d : Detail) (s : State), c ≠ .drop →
      raise c d s =
        if CauseSet.has s.evt.eventMask c = true then
          handOver (.event c s.seq.strokeNumber s.sns.latestDepth d)
            { s with evt := { s.evt with pending := CauseSet.with s.evt.pending c } }
        else { s with evt := { s.evt with pending := CauseSet.with s.evt.pending c } })

/-- A command ends with one response, tag and number copied, handed over; then the decoder holds the next waiting command
of a known number, each one before it of an unknown number answered UNKNOWN; with none waiting it holds none. That an
unknown command is answered in the step that frees the decoder is the model's choice (log 3). -/
def Obligations.AnswerThenNextCommand : Prop :=
  ∀ (c : Command) (r : Reply) (s : State),
    (respond c r s = handOver (.response c.tag c.number r.result r.data) s)
    ∧ (s.ctl.waitList = [] →
        releaseHand s = { s with dec := { s.dec with hand := none }, ctl := { s.ctl with waitList := [] } })
    ∧ (∀ n rest, s.ctl.waitList = n :: rest → 1 ≤ n.number.toNat → n.number.toNat ≤ 35 →
        releaseHand s = { s with dec := { s.dec with hand := some n }, ctl := { s.ctl with waitList := rest } })
    ∧ (∀ n rest, s.ctl.waitList = n :: rest → (n.number.toNat = 0 ∨ 35 < n.number.toNat) →
        releaseHand s = releaseHand { handOver (.response n.tag n.number .unknown []) s with
          ctl := { s.ctl with waitList := rest } })

/-! ### The commands of the sequencer and the line driver (02, 04) -/

/-- ARM: the first check that fails answers and changes nothing else; taken, it numbers the stroke, resets the stroke's
state and enters ARMED. -/
def Obligations.ArmChecksThenBegins : Prop :=
  ∀ (c : Command) (s : State), s.takes 1 c → c.args.length ≤ 16 →
    exec .arm s = .next (
      if s.seq.phase ≠ .idle then refusedWith c .state s
      else if s.line.stop = true then refusedWith c .stopped s
      else if s.load.active.code ≠ 2 then refusedWith c .noProfile s
      else if s.load.swapPending = true then refusedWith c .busy s
      else if s.seq.strokeNumber = 4294967295 then refusedWith c .state s
      else answered c { result := .ok, data := beBytes 4 (s.seq.strokeNumber + 1) }
        { s with
          seq := { phase := .armed, strokeNumber := s.seq.strokeNumber + 1
                   tag := if c.args = [] then none else some c.args, highWater := 0, heldFrom := none, holdDepth := none
                   rePress := false, tareRing := [], baselines := List.replicate 12 0, contact := false, peak := none
                   stallTimer := none, sampleCount := 0 }
          sns := { s.sns with missing := 0, stale := 0 }
          win := { openSet := [], cursor := 0, map := s.profile.livePins.map PinRec.freshEntry, failTotal := 0
                   failList := [] } })

/-- DISARM by phase: STATE in IDLE; IDLE from ARMED, RETRACT and ABORTED. From a running stroke an abort with reason
DISARM: timer stopped, UNTESTED entries ABORTED and the window set emptied, the record with outcome ABORT and reason DISARM,
the verdict frame, STROKE_FAIL and no other cause, hold cleared, then the entry to IDLE. The stop latch is not touched. -/
def Obligations.DisarmByPhase : Prop :=
  ∀ (c : Command) (s : State), s.takes 2 c → c.args = [] →
    (s.seq.phase = .idle → exec .disarm s = .next (refusedWith c .state s))
    ∧ (s.seq.phase = .armed ∨ s.seq.phase = .retract ∨ s.seq.phase = .aborted →
        exec .disarm s = .next (answered c { result := .ok } (enterIdle s)))
    ∧ (s.seq.phase.inStroke = true →
        let m : State := { s with
          seq := { s.seq with stallTimer := none }
          win := { s.win with
            map := s.win.map.map fun e => if e.verdict = .untested then { verdict := .aborted, estimate := none } else e
            openSet := [] } }
        let r : StrokeRecord :=
          { strokeNumber := s.seq.strokeNumber, tag := s.seq.tag, slot := s.load.activeSlot.getD 0
            profileId := s.profile.header.profileId, outcome := .abort, reason := some .disarm, seatDepth := none
            peak := s.seq.peak, counts := countsOf m.win.map, failTotal := s.win.failTotal, failList := s.win.failList
            missing := min 65535 s.sns.missing, stale := min 65535 s.sns.stale, sampleCount := s.seq.sampleCount }
        let u : State := raise .strokeFail .absent (handOver (.verdict
          { strokeNumber := s.seq.strokeNumber, outcome := .abort, reason := some .disarm, counts := countsOf m.win.map
            failTotal := s.win.failTotal, first := s.win.failList.head? })
          { m with rcd := { history := (s.rcd.history ++ [r]).drop (s.rcd.history.length + 1 - 8)
                            last := some .abort, previous := s.rcd.last } })
        exec .disarm s = .next (answered c { result := .ok }
          (enterIdle { u with line := { stop := s.line.stop, hold := false } })))
    ∧ (∀ t, exec .disarm s = .next t → t.line.stop = s.line.stop ∧ t.seq.phase = .idle)

/-- RESUME: taken in HELD it restores the held-from phase, sets re-press, clears held-from, hold depth and the hold state,
and suppresses every entry whose range holds the hold depth; in any other phase STATE. -/
def Obligations.ResumeReturnsToHeldFrom : Prop :=
  ∀ (c : Command) (s : State), s.takes 3 c → c.args = [] →
    (s.seq.phase ≠ .held → exec .resume s = .next (refusedWith c .state s))
    ∧ (∀ (p : Phase) (d : Nat), s.seq.phase = .held → s.seq.heldFrom = some p → s.seq.holdDepth = some d →
        exec .resume s = .next (answered c { result := .ok }
          { s with
            seq := { s.seq with phase := p, rePress := true, heldFrom := none, holdDepth := none }
            line := { s.line with hold := false }
            trig := s.trig.map fun t =>
              if t.base ≤ d ∧ d < t.base + spanOf t.spanCode then { t with suppress := true } else t }))

/-- CLEAR STOP: BUSY during the scan; in IDLE and ABORTED the latch becomes clear and the response reports it as it was;
elsewhere STATE. -/
def Obligations.ClearStopByPhase : Prop :=
  ∀ (c : Command) (s : State), s.holds 4 c → c.args = [] →
    exec .clearStop s = .next (
      if s.store.scanRunning = true then refusedWith c .busy s
      else if s.seq.phase = .idle ∨ s.seq.phase = .aborted then
        answered c { result := .ok, data := [if s.line.stop then 1 else 0] } { s with line := { s.line with stop := false } }
      else refusedWith c .state s)

/-! ### The edit buffer (08 R142-R146) -/

/-- EDIT CLEAR, SET HEADER, PUT GROUP and SET COUNTS: BUSY while an EDIT LOAD or a COMMIT runs; else OK, and they change
only what they name. -/
def Obligations.EditCommandsWriteBuffer : Prop :=
  ∀ (c : Command) (s : State),
    (s.takes 5 c → c.args = [] → exec .editClear s = .next (
      if s.bufferHeld then refusedWith c .busy s
      else answered c { result := .ok } { s with store := { s.store with buffer := Image.cleared } }))
    ∧ (∀ h, s.takes 7 c → parseHeader c.args = some h → exec .setHeader s = .next (
      if s.bufferHeld then refusedWith c .busy s
      else answered c { result := .ok } { s with store := { s.store with buffer := { s.store.buffer with
        header := { h with groupCount := s.store.buffer.header.groupCount
                           pinCount := s.store.buffer.header.pinCount } } } }))
    ∧ (∀ i g, s.takes 8 c → parsePutGroup c.args = some (i, g) → exec .putGroup s = .next (
      if s.bufferHeld then refusedWith c .busy s
      else answered c { result := .ok } { s with store := { s.store with buffer := { s.store.buffer with
        groups := s.store.buffer.groups.set i g } } }))
    ∧ (∀ gc pc, s.takes 10 c → parseCounts c.args = some (gc, pc) → exec .setCounts s = .next (
      if s.bufferHeld then refusedWith c .busy s
      else answered c { result := .ok } { s with store := { s.store with buffer :=
        { header := { s.store.buffer.header with groupCount := gc, pinCount := pc }
          groups := s.store.buffer.groups.take gc ++ List.replicate (s.store.buffer.groups.length - gc) {}
          pins := s.store.buffer.pins.take pc ++ List.replicate (s.store.buffer.pins.length - pc) {} } } }))

/-- PUT PINS: BUSY while the buffer is held, RANGE for a run beyond index 639, else the records of the run replace those
from the first index on and no other record changes. -/
def Obligations.PutPinsReplacesRun : Prop :=
  ∀ (c : Command) (s : State) (first : Nat) (pins : List PinRec), s.takes 9 c →
    parsePutPins c.args = some (first, pins) → s.store.buffer.pins.length = 640 →
    (s.bufferHeld = true → exec .putPins s = .next (refusedWith c .busy s))
    ∧ (s.bufferHeld = false → 640 < first + pins.length → exec .putPins s = .next (refusedWith c .range s))
    ∧ (s.bufferHeld = false → first + pins.length ≤ 640 →
        exec .putPins s = .next (answered c { result := .ok } { s with store := { s.store with buffer :=
          { s.store.buffer with pins :=
              s.store.buffer.pins.take first ++ pins ++ s.store.buffer.pins.drop (first + pins.length) } } }))

/-- VALIDATE and READ EDIT: BUSY while an EDIT LOAD runs; else VALIDATE answers OK, or INVALID with the failing check's
number and item, and READ EDIT the records asked for; neither changes state. Validation finds nothing exactly when all
fifteen checks pass, and else names the first check that fails, with its lowest failing item, or no item where the header
alone fails it. -/
def Obligations.ValidateAndReadEditAnswer : Prop :=
  ∀ (c : Command) (s : State),
    (s.takes 11 c → c.args = [] → exec .validate s = .next (
      if s.editLoading then refusedWith c .busy s
      else match s.store.buffer.validate with
        | none => answered c { result := .ok } s
        | some f => answered c { result := .invalid
                                 data := beBytes 1 f.check ++ beBytes 2 (f.item.getD 65535) } s))
    ∧ (∀ part, s.takes 14 c → parseReadEdit c.args = some part → exec .readEdit s = .next (
      if s.editLoading then refusedWith c .busy s
      else answered c { result := .ok
                        data := match part with
                          | .header => headerBytes s.store.buffer.header
                          | .group i => groupBytes (s.store.buffer.groups.getD i {})
                          | .pins i n => ((s.store.buffer.pins.drop i).take n).flatMap pinBytes } s))
    ∧ (∀ img : Image,
      (img.validate = none ↔ ∀ n, 1 ≤ n → n ≤ 15 → img.passes n)
      ∧ ∀ f, img.validate = some f → 1 ≤ f.check ∧ f.check ≤ 15 ∧ (∀ n, 1 ≤ n → n < f.check → img.passes n)
        ∧ (match f.item with
          | none => ¬ img.headerPasses f.check
          | some k => img.headerPasses f.check ∧ img.itemFails f.check k ∧ ∀ j < k, ¬ img.itemFails f.check j))

/-- EDIT LOAD: BUSY with NV busy, EMPTY or CORRUPT by the slot, else the operation starts. SELECT: its refusals in order; in
IDLE the active tables load and the map empties, a staged load abandoned; in any other phase the staged tables load and
nothing else changes. -/
def Obligations.LoadCommandsStart : Prop :=
  (∀ (c : Command) (s : State) (slot : Nat), s.takes 6 c → parseSlot c.args = some slot →
      (s.nvBusy = true → exec .editLoad s = .next (refusedWith c .busy s))
      ∧ (s.nvBusy = false → s.slotState slot = .empty → exec .editLoad s = .next (refusedWith c .empty s))
      ∧ (s.nvBusy = false → s.slotState slot = .corrupt → exec .editLoad s = .next (refusedWith c .corrupt s))
      ∧ (∀ id gc pc, s.nvBusy = false → s.slotState slot = .valid id gc pc →
          exec .editLoad s = .next (answered c { result := .ok }
            { s with store := { s.store with nvOp := some (.editLoad slot) } })))
  ∧ (∀ (c : Command) (s : State) (slot : Nat), s.takes 20 c → parseSlot c.args = some slot →
      (s.nvBusy = true ∨ s.slotState slot = .writing → exec .select s = .next (refusedWith c .busy s))
      ∧ (s.nvBusy = false → s.slotState slot = .empty → exec .select s = .next (refusedWith c .empty s))
      ∧ (s.nvBusy = false → s.slotState slot = .corrupt → exec .select s = .next (refusedWith c .corrupt s))
      ∧ (∀ id gc pc, s.nvBusy = false → s.slotState slot = .valid id gc pc →
          exec .select s = .next (answered c { result := .ok } (
            if s.seq.phase = .idle then
              { s with
                load := { active := .loading, activeSlot := some slot, stale := false
                          staged := if s.load.staged = .loading then .absent else s.load.staged
                          stagedSlot := if s.load.staged = .loading then none else s.load.stagedSlot
                          swapPending := if s.load.staged = .loading then false else s.load.swapPending }
                win := { s.win with map := [] } }
            else { s with load := { s.load with staged := .loading, stagedSlot := some slot } }))))

/-! ### Writing slots and protection (08 R147-R155) -/

/-- COMMIT and ERASE: the checks in order, COMMIT's first two its own; the write begins when all pass, the slot WRITING,
NV busy set, and the stale flag set when it is the active slot in IDLE with READY tables. That the slot's memory is partial
from this moment is the model's deduction (log 21). -/
def Obligations.WritesCheckThenBegin : Prop :=
  ∀ (c : Command) (s : State) (slot : Nat), parseSlot c.args = some slot →
    let gate : NvOp → State := fun op =>
      if s.wpHigh = false then refusedWith c .locked s
      else if s.unlocked slot = false then refusedWith c .locked s
      else if s.store.protect.getLsbD slot = true then refusedWith c .slotProtected s
      else if s.inUse slot = true then refusedWith c .inUse s
      else if s.nvBusy = true then refusedWith c .busy s
      else answered c { result := .ok }
        { s with
          store := { s.store with slots := s.store.slots.set slot .broken
                                  directory := s.store.directory.set slot .writing, nvOp := some op }
          load := { s.load with stale := s.load.stale
            || (s.load.activeSlot == some slot && s.seq.phase == .idle && s.load.active.code == 2) } }
    (s.takes 12 c → exec .commit s = .next (
      if s.editLoading = true then refusedWith c .busy s
      else match s.store.buffer.validate with
        | some f => answered c { result := .invalid, data := beBytes 1 f.check ++ beBytes 2 (f.item.getD 65535) } s
        | none => gate (.commit slot)))
    ∧ (s.takes 13 c → exec .erase s = .next (gate (.erase slot)))

/-- READ DIRECTORY: lock state, WP level and the entries from the first slot on, at most 6 by its argument's field and
none beyond slot 23; no state changes. -/
def Obligations.ReadDirectoryAnswers : Prop :=
  ∀ (c : Command) (s : State) (first count : Nat), s.takes 15 c → parseDirectory c.args = some (first, count) →
    s.store.directory.length = 24 →
    count ≤ 6 ∧
    exec .readDirectory s = .next (answered c
      { result := .ok
        data := [BitVec.ofNat 8 s.store.lockLower, BitVec.ofNat 8 s.store.lockUpper,
                 BitVec.ofNat 8 (flag s.store.invert + 2 * flag s.store.lockTight + 4 * flag s.wpHigh)]
          ++ (List.range (min count (24 - first))).flatMap fun k =>
              entryBytes (s.slotState (first + k)) (s.store.protect.getLsbD (first + k)) } s)

/-- LOCK RANGE by its five refusals in order, else its three values are set; LOCK TIGHT sets lock-tight. PROTECT and CLEAR
PROTECT by their checks in order, SVC as it stands when the command is taken; else the operation starts. -/
def Obligations.LockAndProtectCommands : Prop :=
  (∀ (c : Command) (s : State),
      (∀ lo hi inv, s.takes 16 c → parseLockRange c.args = some (lo, hi, inv) → exec .lockRange s = .next (
        if 23 < lo ∨ 23 < hi then refusedWith c .range s
        else if hi < lo then refusedWith c .range s
        else if s.store.lockTight = true then refusedWith c .locked s
        else if s.wpHigh = false then refusedWith c .locked s
        else if s.nvBusy = true then refusedWith c .busy s
        else answered c { result := .ok }
          { s with store := { s.store with lockLower := lo, lockUpper := hi, invert := inv } }))
      ∧ (s.takes 17 c → c.args = [] →
          exec .lockTight s = .next (answered c { result := .ok } { s with store := { s.store with lockTight := true } })))
  ∧ (∀ (c : Command) (s : State) (svc : Bool),
      (∀ slot, s.takes 18 c → parseSlot c.args = some slot → exec (.protect svc) s = .next (
        if s.wpHigh = false then refusedWith c .locked s
        else if s.unlocked slot = false then refusedWith c .locked s
        else if svc = false then refusedWith c .service s
        else if s.nvBusy = true then refusedWith c .busy s
        else answered c { result := .ok } { s with store := { s.store with nvOp := some (.protect slot) } }))
      ∧ (s.takes 19 c → c.args = [] → exec (.clearProtect svc) s = .next (
        if s.wpHigh = false then refusedWith c .locked s
        else if svc = false then refusedWith c .service s
        else if s.nvBusy = true then refusedWith c .busy s
        else answered c { result := .ok } { s with store := { s.store with nvOp := some .clearProtect } })))

/-! ### Verdicts, triggers, capture, records, causes (03 R73; 05; 06; 07) -/

/-- READ VERDICTS: NOPROFILE on an empty map, RANGE beyond it, else as many entries as the count, 16 and the map allow. READ
RECORD: the page of the record with that stroke number, RANGE when the history has none. Neither changes state. Bits 7-4 of
the summary's presence byte are 0, which is the model's choice (log 32). -/
def Obligations.VerdictAndRecordReadout : Prop :=
  (∀ (c : Command) (s : State) (first count : Nat), s.takes 21 c → parseRun c.args = some (first, count) →
      exec .readVerdicts s = .next (
        if s.win.map = [] then refusedWith c .noProfile s
        else if s.win.map.length ≤ first then refusedWith c .range s
        else answered c
          { result := .ok
            data := ((s.win.map.drop first).take (min count 16)).flatMap fun e => verdictWord e.verdict e.estimate } s))
  ∧ (∀ (c : Command) (s : State) (number page : Nat), s.takes 28 c → parseRecord c.args = some (number, page) →
      ((∀ r ∈ s.rcd.history, r.strokeNumber ≠ number) → exec .readRecord s = .next (refusedWith c .range s))
      ∧ ((∃ r ∈ s.rcd.history, r.strokeNumber = number) →
          ∃ r ∈ s.rcd.history, r.strokeNumber = number
            ∧ exec .readRecord s = .next (answered c
                { result := .ok
                  data := if page = 0 then summaryBytes r
                    else ((r.failList.drop ((page - 1) * 6)).take 6).flatMap failBytes } s)))

/-- SET TRIGGER replaces the entry whole, its suppress flag cleared and its hit flag left, and answers the base, which is
the argument aligned down to a multiple of the span; the enable's code 0 is ON, as the model deduces (log 15). READ TRIGGERS
answers the four entries and changes nothing, the bits of an entry that have no item being 0, which is the model's choice
(log 32); CLEAR HITS answers the four hit flags and clears them. -/
def Obligations.TriggerCommands : Prop :=
  (∀ (c : Command) (s : State) (i : Nat) (t : Trigger), s.takes 22 c → parseTrigger c.args = some (i, t) →
      s.trig.length = 4 →
      t.base % spanOf t.spanCode = 0 ∧ t.base ≤ fieldAt c.args 6 16 ∧ fieldAt c.args 6 16 < t.base + spanOf t.spanCode
      ∧ t.spanCode = fieldAt c.args 4 2 ∧ (t.enable = true ↔ fieldAt c.args 45 1 = 0) ∧ i < 4
      ∧ ∃ u, exec .setTrigger s = .next (answered c { result := .ok, data := beBytes 2 t.base } { s with trig := u })
        ∧ u.length = 4 ∧ u[i]? = (s.trig[i]?).map (fun old => { t with hit := old.hit, suppress := false })
        ∧ (∀ j, j ≠ i → u[j]? = s.trig[j]?))
  ∧ (∀ (c : Command) (s : State),
      (s.takes 23 c → c.args = [] →
        exec .readTriggers s = .next (answered c { result := .ok, data := s.trig.flatMap triggerBytes } s))
      ∧ (s.takes 24 c → c.args = [] →
        exec .clearHits s = .next (answered c
          { result := .ok, data := s.trig.map fun t => if t.hit then 1 else 0 }
          { s with trig := s.trig.map fun t => { t with hit := false } })))

/-- CAPTURE NOW, RELEASE CAPTURE and READ CAPTURE by the capture state. Bit 15 of bytes 3-4 of an entry is 0, which is the
model's choice (log 32). -/
def Obligations.CaptureCommands : Prop :=
  ∀ (c : Command) (s : State),
    (s.takes 25 c → c.args = [] → exec .captureNow s = .next (answered c
      { result := .ok
        data := (if s.cap.state = .idle then 0 else 1) :: beBytes 2 (captureRequest s).cap.missed } (captureRequest s)))
    ∧ (s.takes 26 c → c.args = [] → exec .releaseCapture s = .next (answered c
      { result := .ok
        data := BitVec.ofNat 8 s.cap.state.code :: (beBytes 2 s.cap.countdown ++ beBytes 2 s.cap.missed) }
      (match s.cap.state with
        | .idle => s
        | .counting => { s with cap := { s.cap with state := .idle, countdown := 0, trigPos := none } }
        | .frozen => { s with cap := { s.cap with state := .idle, trigPos := none, trigOffset := none } })))
    ∧ (∀ off count, s.takes 27 c → parseRun c.args = some (off, count) → exec .readCapture s = .next (
      if s.cap.state ≠ .frozen then refusedWith c .state s
      else if s.cap.ring.length ≤ off then refusedWith c .range s
      else answered c
        { result := .ok
          data := beBytes 2 s.cap.ring.length ++ beBytes 2 (s.cap.trigOffset.getD 65535) ++ beBytes 2 s.cap.missed
            ++ ((s.cap.ring.drop off).take (min count 6)).flatMap histBytes } s))

/-- A capture request: in IDLE it sets the trigger position to the newest entry and counts the post count down, or with a
post count of 0 freezes at once and raises CAPTURE_DONE; in COUNTING and FROZEN it is missed. Recording: an entry for every
accepted sample unless FROZEN, the oldest leaving a ring of 512; in COUNTING the countdown falls by one, and at 0 the ring
freezes with CAPTURE_DONE. -/
def Obligations.CaptureUnitByState : Prop :=
  (∀ s : State,
      (s.cap.state ≠ .idle → captureRequest s = { s with cap := { s.cap with missed := min 65535 (s.cap.missed + 1) } })
      ∧ (s.cap.state = .idle → s.dec.postCount ≠ 0 →
          captureRequest s = { s with cap := { s.cap with
            state := .counting, countdown := s.dec.postCount
            trigPos := if s.cap.ring = [] then none else some (s.cap.ring.length - 1) } })
      ∧ (s.cap.state = .idle → s.dec.postCount = 0 →
          captureRequest s = raise .captureDone .absent { s with cap := { s.cap with
            state := .frozen, countdown := 0
            trigPos := if s.cap.ring = [] then none else some (s.cap.ring.length - 1)
            trigOffset := if s.cap.ring = [] then none else some (s.cap.ring.length - 1) } }))
  ∧ (∀ (e : HistEntry) (s : State), s.cap.ring.length ≤ 512 →
      let ring := if s.cap.ring.length = 512 then s.cap.ring.drop 1 ++ [e] else s.cap.ring ++ [e]
      let pos := if s.cap.ring.length = 512 then s.cap.trigPos.map (· - 1) else s.cap.trigPos
      (s.cap.state = .frozen → recordSample e s = s)
      ∧ (s.cap.state = .idle → recordSample e s = { s with cap := { s.cap with ring := ring, trigPos := pos } })
      ∧ (s.cap.state = .counting → 1 < s.cap.countdown →
          recordSample e s = { s with cap := { s.cap with
            ring := ring, trigPos := pos, countdown := s.cap.countdown - 1 } })
      ∧ (s.cap.state = .counting → s.cap.countdown = 1 →
          recordSample e s = raise .captureDone .absent { s with cap := { s.cap with
            ring := ring, trigPos := pos, countdown := 0, state := .frozen, trigOffset := pos } }))

/-- READ PENDING removes and returns the pending cause of lowest priority number with the number still pending, or NONE. -/
def Obligations.ReadPendingServesHighest : Prop :=
  ∀ (c : Command) (s : State), s.takes 29 c → c.args = [] →
    (s.evt.pending = 0 → exec .readPending s = .next (answered c { result := .ok, data := [0, 0] } s))
    ∧ (∀ x : Cause, CauseSet.has s.evt.pending x = true →
        (∀ y : Cause, CauseSet.has s.evt.pending y = true → x.code ≤ y.code) →
        exec .readPending s = .next (answered c
          { result := .ok
            data := [BitVec.ofNat 8 x.code, BitVec.ofNat 8 (CauseSet.size (CauseSet.without s.evt.pending x))] }
          { s with evt := { s.evt with pending := CauseSet.without s.evt.pending x } }))

/-- CLEAR PENDING: BUSY during the scan; else it empties the pending set and answers how many causes it removed, which
deasserts ALARM in PENDING mode; the masks, the owed flag, the queue and the stop latch stand. -/
def Obligations.ClearPendingEmptiesSet : Prop :=
  ∀ (c : Command) (s : State), s.holds 30 c → c.args = [] →
    let u : State := { s with evt := { s.evt with pending := 0 } }
    exec .clearPending s = .next (
      if s.store.scanRunning = true then refusedWith c .busy s
      else answered c { result := .ok, data := [BitVec.ofNat 8 (CauseSet.size s.evt.pending)] } u)
    ∧ CauseSet.size s.evt.pending ≤ 19
    ∧ (s.evt.alarmMode = .pending → u.alarm = false) ∧ (s.evt.alarmMode = .safety → u.alarm = s.alarm)
    ∧ u.stopLevel = s.stopLevel

/-! ### The decoder's own commands (10) -/

/-- READ STATUS and READ IDENT answer 21 bytes, while the scan runs too, and change no state. The items of READ STATUS in
their order, without a profile id (log 30) and with bits 7-4 of byte 16 at 0, which is the model's choice (log 32); the last
eight bytes of READ IDENT are the complement of the eight before, the serial number, which is one and the same in every
state (log 14). -/
def Obligations.StatusAndIdentAnswer : Prop :=
  ∀ (c : Command) (s : State),
    (s.holds 31 c → c.args = [] → exec .readStatus s = .next (answered c { result := .ok, data := statusBytes s } s)
      ∧ (statusBytes s).length = 21
      ∧ statusBytes s =
        [ BitVec.ofNat 8 (match s.seq.phase with
            | .idle => 0 | .armed => 1 | .approach => 2 | .engage => 3 | .seating => 4 | .held => 5 | .retract => 6
            | .aborted => 7)
        , BitVec.ofNat 8 ((if s.store.scanRunning then 1 else 0) + (if s.store.nvOp.isSome then 2 else 0)
            + (if s.line.stop then 4 else 0) + (if s.line.hold then 8 else 0) + (if s.load.stale then 16 else 0)
            + (if s.load.swapPending then 32 else 0))
        , BitVec.ofNat 8 (s.load.activeSlot.getD 255)
        , (match s.load.active with | .absent => 0 | .loading => 1 | .ready _ => 2)
        , BitVec.ofNat 8 (s.load.stagedSlot.getD 255)
        , (match s.load.staged with | .absent => 0 | .loading => 1 | .ready _ => 2)
        , (match s.rcd.last with | none => 0 | some .pass => 1 | some .fail => 2 | some .abort => 3)
        , (match s.rcd.previous with | none => 0 | some .pass => 1 | some .fail => 2 | some .abort => 3)
        , (match s.cap.state with | .idle => 0 | .counting => 1 | .frozen => 2)
        , BitVec.ofNat 8 (CauseSet.size s.evt.pending) ]
        ++ beBytes 2 s.tx.drop ++ beBytes 2 s.sns.bad ++ beBytes 2 s.ctl.bad
        ++ [ BitVec.ofNat 8 (4 * (match s.sns.port with | .down => 0 | .training => 1 | .up => 2)
            + (match s.ctl.port with | .down => 0 | .training => 1 | .up => 2)) ]
        ++ beBytes 4 s.seq.strokeNumber)
    ∧ (s.holds 32 c → c.args = [] →
      exec .readIdent s = .next (answered c
        { result := .ok
          data := [0x41, 0x80, 1, BitVec.ofNat 8 s.unitAddr.toNat, if s.lockenHigh then 1 else 0]
            ++ beBytes 8 Config.serial.toNat ++ beBytes 8 (~~~Config.serial).toNat } s))

/-- GET SETTING answers the number and the value held in three bytes, and changes no state. -/
def Obligations.GetSettingAnswers : Prop :=
  ∀ (c : Command) (s : State) (k : Setting), s.takes 33 c → parseGetSetting c.args = some k →
    exec .getSetting s = .next (answered c
      { result := .ok, data := BitVec.ofNat 8 k.number :: beBytes 3 (settingValue k s) } s)

/-- SET SETTING clamps the value into the setting's range, applies it, answers number, value applied and whether it was
clamped, and changes nothing else but the owed flag that leaves with DROP. The rule says four data bytes and lists five: the
model answers five (log 31). -/
def Obligations.SetSettingClampsAndApplies : Prop :=
  ∀ (c : Command) (s : State) (k : Setting) (v : Nat), s.takes 34 c → parseSetSetting c.args = some (k, v) →
    ∃ a u, exec .setSetting s = .next (answered c
        { result := .ok
          data := BitVec.ofNat 8 k.number :: beBytes 3 a ++ [if a = v then 0 else 1] } u)
      ∧ settingValue k u = a ∧ (∀ j, j ≠ k → settingValue j u = settingValue j s)
      ∧ a = (match k with
          | .unitMask => min v 63
          | .stallTimeout => min v 255
          | .strokeLimit => if v = 0 then 1 else min v 1023
          | .postCount => min v 511
          | .alarmMode | .stepMode | .stopOnFail | .annotation => if v = 0 then 0 else 1
          | .alarmMask | .eventMask => v % 524288)
      ∧ u.evt.pending = s.evt.pending
      ∧ u.evt.dropOwed = (if k = .eventMask ∧ a.testBit 17 = false then none else s.evt.dropOwed)
      ∧ u = { s with dec := u.dec, evt := u.evt } ∧ u.dec.hand = s.dec.hand

/-- RESET UNIT: STATE outside IDLE, BUSY with NV busy; else the soft reset, and its response is the first inserted frame of
the emptied queue when the port is UP. What R193 lists stands. -/
def Obligations.ResetUnitResets : Prop :=
  ∀ (c : Command) (s : State), s.takes 35 c → c.args = [] →
    (s.seq.phase ≠ .idle → exec .resetUnit s = .next (refusedWith c .state s))
    ∧ (s.seq.phase = .idle → s.nvBusy = true → exec .resetUnit s = .next (refusedWith c .busy s))
    ∧ (s.seq.phase = .idle → s.nvBusy = false →
        exec .resetUnit s = .next (answered c { result := .ok } (softReset s)))
    ∧ (let r := softReset s
       (s.ctl.port = .up → (respond c { result := .ok } r).tx.queue = [.response c.tag c.number .ok []])
       ∧ r.seq = {} ∧ r.win = {} ∧ r.line = {} ∧ r.trig = List.replicate 4 {} ∧ r.cap = {} ∧ r.rcd = {} ∧ r.evt = {}
       ∧ r.load = {} ∧ r.sns = { s.sns with missing := 0, stale := 0 } ∧ r.tx.queue = [] ∧ r.tx.drop = 0
       ∧ r.tx.lane = s.tx.lane ∧ r.tx.fwd = s.tx.fwd ∧ r.ctl = s.ctl
       ∧ r.store = { s.store with buffer := Image.cleared } ∧ r.unitAddr = s.unitAddr ∧ r.lockenHigh = s.lockenHigh
       ∧ r.alarm = false ∧ (∀ k, settingValue k r = settingValue k State.reset))

/-! ### Power, NRST, WP and the lines (04 R89; 08 R140, R141, R153, R155) -/

/-- POWER_ON of an unpowered part and NRST_RISE of one held in reset: every block at its power-on state, the straps as read,
the scan running, the lock range by LOCKEN, or all locked with WP low; the slots, the protect bits and what has been sent
stand. The fresh state is that of State.reset, so it also has two things the model settles: a directory of EMPTY entries
while the scan runs (log 20), and no forwarded frame waiting and none on the lane (log 24). NRST_LOW and POWER_OFF: the
part no longer runs, a running operation has ended, the slots stand, and each protect bit stands unless the operation was
changing it (log 11); an unpowered part is as log 19 has it. -/
def Obligations.PowerAndNrst : Prop :=
  (∀ (s : State) (nrst wp locken : Bool) (addr : BitVec 6),
      let fresh : State → State := fun s => { State.reset with
        powered := s.powered, nrstHigh := s.nrstHigh, wpHigh := s.wpHigh, lockenHigh := locken, unitAddr := addr
        tx := { State.reset.tx with ctlTx := s.tx.ctlTx }
        store := { State.reset.store with
          slots := s.store.slots, protect := s.store.protect
          lockLower := 0, lockUpper := 23, invert := if s.wpHigh then locken else true }
        snsTx := s.snsTx, freeIdx := s.freeIdx, pending := s.pending }
      (s.powered = false → exec (.powerOn nrst wp locken addr) s
          = .next (fresh { s with powered := true, nrstHigh := nrst, wpHigh := wp }))
      ∧ (s.powered = true → s.nrstHigh = false →
          exec (.nrstRise locken addr) s = .next (fresh { s with nrstHigh := true })))
  ∧ (∀ (s : State) (c : Instr), s.live = true → c = .nrstLow ∨ c = .powerOff →
      ∃ t, exec c s = .next t ∧ t.live = false ∧ t.nvBusy = false ∧ t.store.slots = s.store.slots
        ∧ t.pending = s.pending ∧ t.stopLevel = false
        ∧ (∀ n, (s.store.nvOp ≠ some (.protect n) ∧ s.store.nvOp ≠ some .clearProtect) →
            t.store.protect.getLsbD n = s.store.protect.getLsbD n))

/-- The levels of the lines while the part runs and while NRST holds it in reset. -/
def Obligations.LineLevels : Prop :=
  ∀ s : State, s.powered = true →
    (s.nrstHigh = true → s.stopLevel = !s.line.stop ∧ s.holdLevel = some s.line.hold
      ∧ (s.evt.alarmMode = .safety → s.alarmLevel = some (!s.line.stop))
      ∧ (s.evt.alarmMode = .pending →
          (∃ x : Cause, CauseSet.has s.evt.pending x = true ∧ CauseSet.has s.evt.alarmMask x = true) →
          s.alarmLevel = some false)
      ∧ (s.evt.alarmMode = .pending →
          (∀ x : Cause, CauseSet.has s.evt.pending x = true → CauseSet.has s.evt.alarmMask x = false) →
          s.alarmLevel = some true))
    ∧ (s.nrstHigh = false → s.stopLevel = false ∧ s.holdLevel = some false ∧ s.alarmLevel = some true)

/-- POWER_ON_SCAN_DONE: slot n is EMPTY when erased, VALID with its counts when unchanged memory passes its check, CORRUPT
otherwise; the scan has ended and nothing else changes. -/
def Obligations.ScanJudgesSlots : Prop :=
  ∀ (s : State) (changed : BitVec 24), s.live = true → s.store.scanRunning = true → s.store.slots.length = 24 →
    ∃ slots dir, exec (.powerOnScanDone changed) s
        = .next { s with store := { s.store with slots := slots, directory := dir, scanRunning := false } }
      ∧ slots.length = 24 ∧ dir.length = 24
      ∧ ∀ n < 24,
        (changed.getLsbD n = true → dir[n]? = some .corrupt)
        ∧ (changed.getLsbD n = false → slots[n]? = s.store.slots[n]?
          ∧ (s.store.slots[n]? = some .erased → dir[n]? = some .empty)
          ∧ (s.store.slots[n]? = some .broken → dir[n]? = some .corrupt)
          ∧ (∀ img k, s.store.slots[n]? = some (.image img k) → dir[n]? = some (
              if imageCheck img = k then .valid img.header.profileId img.header.groupCount img.header.pinCount
              else .corrupt)))

/-- WP_FALL of a running part stops a COMMIT or ERASE with the slot CORRUPT, PROFILE_FAULT and a failed NV_DONE, a PROTECT
or CLEAR PROTECT with the bits as they were and a failed NV_DONE; then, with lock-tight clear, every slot is locked.
WP_RISE changes the level alone. -/
def Obligations.WpFallAndRise : Prop :=
  ∀ s : State,
    (exec .wpRise s = .next { s with wpHigh := true })
    ∧ (s.live = true → s.wpHigh = true →
      ∃ u, exec .wpFall s = .next
          (if s.store.lockTight = true then u
           else { u with store := { u.store with lockLower := 0, lockUpper := 23, invert := true } })
        ∧ u.wpHigh = false
        ∧ (∀ n, s.store.nvOp = some (.commit n) ∨ s.store.nvOp = some (.erase n) →
            u = raise .nvDone (.nv (some n) false) (raise .profileFault (.slot n) { s with
              wpHigh := false
              store := { s.store with slots := s.store.slots.set n .broken
                                      directory := s.store.directory.set n .corrupt, nvOp := none } }))
        ∧ (∀ n, s.store.nvOp = some (.protect n) →
            u = raise .nvDone (.nv (some n) false) { s with wpHigh := false, store := { s.store with nvOp := none } })
        ∧ (s.store.nvOp = some .clearProtect →
            u = raise .nvDone (.nv none false) { s with wpHigh := false, store := { s.store with nvOp := none } })
        ∧ (∀ n, s.store.nvOp = none ∨ s.store.nvOp = some (.editLoad n) → u = { s with wpHigh := false }))

/-! ### Samples (02; 03; 09 R164-R170) -/

/-- A bad SAMPLE frame is counted and nothing else happens; a stale one is counted, raises STALE with the count and is
forwarded as received, the expected number and the latest depth as they were. -/
def Obligations.BadAndStaleSamples : Prop :=
  ∀ (s : State) (body : List Byte) (check : Word16), s.live = true → s.sns.port = .up →
    (badForward { cls := 0x01#8, body := body, check := check } = true →
      exec (.sampleFrame body check) s
        = .next { s with sns := { s.sns with bad := min 65535 (s.sns.bad + 1) } })
    ∧ (∀ e, badForward { cls := 0x01#8, body := body, check := check } = false → s.sns.expected = some e →
        128 ≤ ((readSample body).seq - e).toNat →
        let n := min 4294967295 (s.sns.stale + 1)
        exec (.sampleFrame body check) s = .next (forward { cls := 0x01#8, body := body, check := check }
          (raise .stale (.count n) { s with sns := { s.sns with stale := n } })))

/-- A good SAMPLE frame that is in order or after a gap: expected number, missing count and latest depth are set, the
sequencer handles the sample, the capture unit records it, a trigger's capture request follows, and the frame is forwarded
with its annotation when the setting is ON. The open-window count is the one that the window engine gave, and as it stands
for a sample that the engine did not have. -/
def Obligations.AcceptedSampleTakesSamplePath : Prop :=
  ∀ (s : State) (body : List Byte) (check : Word16) (gap : Nat), s.live = true → s.sns.port = .up →
    badForward { cls := 0x01#8, body := body, check := check } = false →
    (s.sns.expected = none ∧ gap = 0
      ∨ ∃ e, s.sns.expected = some e ∧ ((readSample body).seq - e).toNat = gap ∧ gap ≤ 127) →
    let x := readSample body
    let r := sequence x gap { s with sns := { s.sns with
      expected := some (x.seq + 1), missing := min 4294967295 (s.sns.missing + gap), latestDepth := x.depth } }
    let u := recordSample { seq := x.seq, depth := x.depth, raw := x.raw, overrange := x.overrange
                            phase := r.1.seq.phase } r.1
    let v := if r.2.capture then captureRequest u else u
    exec (.sampleFrame body check) s = .next (forward
      (if v.dec.annotation then
        mkFrame 0x01#8 (body.take 29
          ++ annotationBytes v.seq.phase v.line.stop v.line.hold r.2.marks (r.2.openCount.getD v.win.openSet.length))
       else { cls := 0x01#8, body := body, check := check }) v)

/-- The phase a sample finds: no work in IDLE and ABORTED, the retract test in RETRACT, APPROACH from ARMED. Steps 1 to 4 in
a running stroke: counted, timer restarted, peak taken after contact; CRUSH with the lowest channel, then TOO_LONG, then
CREEP or REVERSAL abort; else a non-advancing sample goes to the triggers alone. -/
def Obligations.SamplePhasesAndChecks : Prop :=
  (∀ (x : Sample) (gap : Nat) (s : State),
      (s.seq.phase = .idle ∨ s.seq.phase = .aborted → sequence x gap s = (s, {}))
      ∧ (s.seq.phase = .retract → sequence x gap s
          = (if x.depth < s.profile.header.contactDepth then enterIdle s else s, {}))
      ∧ (s.seq.phase = .armed →
          sequence x gap s = strokeSample x gap { s with seq := { s.seq with phase := .approach } })
      ∧ (s.seq.phase.inStroke = true → sequence x gap s = strokeSample x gap s))
  ∧ (∀ (x : Sample) (gap : Nat) (s : State),
      let net := netForces s.seq.baselines x.raw
      let h := s.profile.header
      let s1 : State := { s with seq := { s.seq with
        sampleCount := s.seq.sampleCount + 1
        stallTimer := if s.dec.stallTimeout = 0 then none else some s.dec.stallTimeout
        peak := if s.seq.contact = true then some (match s.seq.peak with
            | none => seatSum h.channelCount net
            | some p => max p (seatSum h.channelCount net)) else s.seq.peak } }
      let crush := crushFrom h.crushLimit x.overrange 0 (net.take h.channelCount)
      (∀ c, crush = some c → strokeSample x gap s = (abort .crush (.channel c) s1, {}))
      ∧ (crush = none → s.dec.strokeLimit * 1024 < s.seq.sampleCount + 1 →
          strokeSample x gap s = (abort .tooLong .absent s1, {}))
      ∧ (crush = none → s.seq.sampleCount + 1 ≤ s.dec.strokeLimit * 1024 →
          (∀ d, s.seq.phase = .held → s.seq.holdDepth = some d →
            (d + h.backlash < x.depth → strokeSample x gap s = (abort .creep .absent s1, {}))
            ∧ (x.depth ≤ d + h.backlash → strokeSample x gap s = handToTriggers x false [] s1))
          ∧ (s.seq.phase ≠ .held →
            (x.depth + h.backlash < s.seq.highWater → s.seq.rePress = false →
              strokeSample x gap s = (abort .reversal .absent s1, {}))
            ∧ (x.depth ≤ s.seq.highWater → (s.seq.highWater ≤ x.depth + h.backlash ∨ s.seq.rePress = true) →
              strokeSample x gap s = handToTriggers x false [] s1)
            ∧ (s.seq.highWater < x.depth →
              let s2 : State := { s1 with seq := { s1.seq with highWater := x.depth, rePress := false } }
              let r := phaseWork x gap s2
              let o := handToTriggers x true r.2.classified r.1
              strokeSample x gap s = (o.1, { o.2 with openCount := r.2.openCount })))))

/-- Step 5 in APPROACH: above the contact depth the sample joins the tare ring of 32; the contact sample aborts with TARE
on fewer than 8 entries, and else sets each baseline to the floor of the channel's mean, starts the peak and is handled in
ENGAGE. -/
def Obligations.TareAndContact : Prop :=
  ∀ (x : Sample) (gap : Nat) (s : State), s.seq.phase = .approach →
    (x.depth < s.profile.header.contactDepth →
      phaseWork x gap s = ({ s with seq := { s.seq with
        tareRing := keepLast 32 (s.seq.tareRing ++ [{ depth := x.depth, raw := x.raw }]) } }, {}))
    ∧ (s.profile.header.contactDepth ≤ x.depth → s.seq.tareRing.length < 8 →
      phaseWork x gap s = (abort .tare .absent s, {}))
    ∧ (s.profile.header.contactDepth ≤ x.depth → 8 ≤ s.seq.tareRing.length →
      ∃ b : List Int, b.length = 12
        ∧ (∀ ch < 12, b[ch]? = some (if ch < s.profile.header.channelCount then
            Int.fdiv (s.seq.tareRing.map fun e => e.raw.getD ch 0).sum s.seq.tareRing.length else 0))
        ∧ phaseWork x gap s = phaseWork x gap { s with seq := { s.seq with
            baselines := b, contact := true, phase := .engage
            peak := some (seatSum s.profile.header.channelCount (netForces b x.raw)) } })

/-- Step 5 in ENGAGE and SEATING: the window engine's work, SEATING when every group has closed, PIN_FAIL when a failing
verdict was assigned with stop-on-fail ON, else the seat test; the classified groups and the open-window count are handed
on. The seat test: EARLY_SEAT in ENGAGE, or in SEATING above the seat depth minimum; DONE in SEATING from the minimum on,
with RETRACT, the timer stopped and the close; OVERTRAVEL below the threshold beyond the maximum; else nothing. -/
def Obligations.SeatTestCases : Prop :=
  (∀ (x : Sample) (gap : Nat) (s : State), s.seq.phase = .engage ∨ s.seq.phase = .seating →
    let w := windowWork s.profile x gap (netForces s.seq.baselines x.raw) s.win
    let s1 : State := { s with
      win := w.win
      seq := { s.seq with
        phase := if w.win.cursor = s.profile.header.groupCount ∧ w.win.openSet = [] then .seating else s.seq.phase } }
    let failed := ∃ c ∈ w.classified,
      c.verdict = .noEngage ∨ c.verdict = .low ∨ c.verdict = .high ∨ c.verdict = .noData
    (phaseWork x gap s).2 = { classified := w.classified, openCount := some w.win.openSet.length }
    ∧ (s.dec.stopOnFail = true → failed → (phaseWork x gap s).1 = abort .pinFail .absent s1)
    ∧ (s.dec.stopOnFail = false ∨ ¬ failed → (phaseWork x gap s).1 = seatTest x s1))
  ∧ ∀ (x : Sample) (s : State), s.seq.phase = .engage ∨ s.seq.phase = .seating →
    let h := s.profile.header
    let sum := seatSum h.channelCount (netForces s.seq.baselines x.raw)
    ((h.seatForce : Int) ≤ sum → s.seq.phase = .engage → seatTest x s = abort .earlySeat .absent s)
    ∧ ((h.seatForce : Int) ≤ sum → s.seq.phase = .seating → x.depth < h.seatMin →
        seatTest x s = abort .earlySeat .absent s)
    ∧ ((h.seatForce : Int) ≤ sum → s.seq.phase = .seating → h.seatMin ≤ x.depth →
        seatTest x s = closeStroke none (some x.depth)
          { s with seq := { s.seq with phase := .retract, stallTimer := none } })
    ∧ (sum < (h.seatForce : Int) → h.seatMax < x.depth → seatTest x s = abort .overtravel .absent s)
    ∧ (sum < (h.seatForce : Int) → x.depth ≤ h.seatMax → seatTest x s = s)

/-- The net force of a channel is the raw reading less its baseline, clamped to 16 signed bits. -/
def Obligations.NetForceClamped : Prop :=
  ∀ (b r : List Int) (c : Nat) (x y : Int), b[c]? = some x → r[c]? = some y →
    (netForces b r)[c]? = some (if y - x < -32768 then -32768 else if 32767 < y - x then 32767 else y - x)

/-- Classification: NODATA without an estimate for a jumped, short or interrupted window, else the verdict of the estimate,
floor of the rise over the pins, in the order NOENGAGE, LOW, HIGH, PASS. -/
def Obligations.ClassificationOrder : Prop :=
  ∀ (h : Header) (g : GroupRec) (pins : Nat),
    classify h g pins none = { verdict := .noData, estimate := none }
    ∧ ∀ m : Measure, 0 ≤ m.rise → 0 < pins →
      let e := (Int.fdiv m.rise pins).toNat
      classify h g pins (some m) =
        if m.count < h.minSamples then { verdict := .noData, estimate := none }
        else if m.interrupted = true then { verdict := .noData, estimate := none }
        else if e < h.floor then { verdict := .noEngage, estimate := some e }
        else if e < g.perPinMin then { verdict := .low, estimate := some e }
        else if g.perPinMax < e then { verdict := .high, estimate := some e }
        else { verdict := .pass, estimate := some e }

/-- The work on one sample leaves no entry whose window has ended, and the engine's map keeps its pins. In full: the ended
entries leave the set and are classified in its order, then the groups that the cursor passes on this sample are opened with
L0 and P the group sum and a count of 1, or, jumped, classified without a measure, in index order; an entry that stays counts
the sample, takes the larger P and is marked by a gap over the tolerance; every entry then in the set is marked by an
overrange flag on a channel of its group. A verdict goes to every pin of its group, and a failing one to the failing total
and, up to 48 entries in pin order, to the failing list. -/
def Obligations.WindowWorkClosesEnded : Prop :=
  (∀ (img : Image) (x : Sample) (gap : Nat) (net : List Int) (w : WinState),
    let u := (windowWork img x gap net w).win
    (∀ e ∈ u.openSet, x.depth < (img.groupAt e.group).windowEnd)
    ∧ u.map.length = w.map.length ∧ w.cursor ≤ u.cursor)
  ∧ (∀ (img : Image) (x : Sample) (gap : Nat) (net : List Int) (w : WinState),
    let sum : Nat → Int := fun i => groupSum (img.groupAt i).channels net
    let ends : Nat → Bool := fun i => decide ((img.groupAt i).start + (img.groupAt i).length ≤ x.depth)
    let passed := List.range' w.cursor
      (((img.groups.take img.header.groupCount).drop w.cursor).takeWhile fun g => decide (g.start ≤ x.depth)).length
    let jobs : List (Nat × Option Measure) :=
      ((w.openSet.filter fun e => ends e.group).map fun e =>
        (e.group, some { rise := e.peak - e.l0, count := e.count, interrupted := e.interrupted }))
      ++ (passed.filter ends).map fun i => (i, none)
    let entryOf : Nat × Option Measure → MapEntry := fun j =>
      classify img.header (img.groupAt j.1) (groupPins (img.pins.take img.header.pinCount) j.1) j.2
    let stay := (w.openSet.filter fun e => !ends e.group).map fun e =>
      { e with count := e.count + 1, peak := max e.peak (sum e.group)
               interrupted := e.interrupted || decide (img.header.gapTolerance < gap) }
    let opened : List WinEntry := (passed.filter fun i => !ends i).map fun i =>
      { group := i, l0 := sum i, peak := sum i, count := 1, interrupted := false }
    let overrange : Nat → Bool := fun i =>
      (List.range 12).any fun c => (img.groupAt i).channels.getLsbD c && x.overrange.getLsbD c
    let judged := jobs.foldl (fun v j => assignVerdict (img.pins.take img.header.pinCount) j.1 (entryOf j) v) w
    windowWork img x gap net w =
      { win := { judged with
          cursor := w.cursor + passed.length
          openSet := (stay ++ opened).map fun e => { e with interrupted := e.interrupted || overrange e.group } }
        classified := jobs.map fun j => { group := j.1, start := (img.groupAt j.1).start, verdict := (entryOf j).verdict } })
  ∧ (∀ (pins : List PinRec) (g : Nat) (e : MapEntry) (w : WinState),
    let a := assignVerdict pins g e w
    let failing : List FailEntry := (pins.zipIdx.filter fun p => decide (p.1.assign = Assignment.group g)).map fun p =>
      { pin := p.2, row := p.1.row, col := p.1.col, verdict := e.verdict, estimate := e.estimate }
    let bad := e.verdict = .noEngage ∨ e.verdict = .low ∨ e.verdict = .high ∨ e.verdict = .noData
    a.openSet = w.openSet ∧ a.cursor = w.cursor ∧ a.map.length = w.map.length
    ∧ (∀ (j : Nat) (p : PinRec) (old : MapEntry), pins[j]? = some p → w.map[j]? = some old →
        a.map[j]? = some (if p.assign = .group g then e else old))
    ∧ (bad → a.failTotal = w.failTotal + groupPins pins g
        ∧ a.failList = (w.failList ++ failing).take 48)
    ∧ (¬ bad → a.failTotal = w.failTotal ∧ a.failList = w.failList.take 48))

/-- Step 6: in a running stroke the sample goes to the trigger unit with the net forces from the baselines that stand, in any
other phase it does not. A DEPTH entry matches an advancing sample in its range, a FORCE entry a sample in its range whose
net force on its channel is above its level, a VERDICT entry a classified group with a verdict other than PASS whose start
lies in its range. The trigger unit on a handed sample: a flag of an entry that the depth has left is cleared first; a match
sets the hit flag whatever the enable and the suppress flag; an entry acts when it matches, is enabled and is not suppressed,
and at least one acting HOLD, or group stepping, makes one hold request. -/
def Obligations.TriggersReleaseMatchAct : Prop :=
  (∀ (x : Sample) (adv : Bool) (cs : List Classified) (s : State),
    (s.seq.phase = .approach ∨ s.seq.phase = .engage ∨ s.seq.phase = .seating ∨ s.seq.phase = .held →
      handToTriggers x adv cs s = triggerWork x.depth adv (netForces s.seq.baselines x.raw) cs s)
    ∧ (s.seq.phase = .idle ∨ s.seq.phase = .armed ∨ s.seq.phase = .retract ∨ s.seq.phase = .aborted →
      handToTriggers x adv cs s = (s, {})))
  ∧ (∀ (d : Nat) (adv : Bool) (net : List Int) (cs : List Classified) (t : Trigger),
    let covers : Nat → Prop := fun d => t.base ≤ d ∧ d < t.base + spanOf t.spanCode
    (t.kind = .depth → (t.matched d adv net cs = true ↔ adv = true ∧ covers d))
    ∧ (∀ ch level v, t.kind = .force ch level → net[ch]? = some v →
        (t.matched d adv net cs = true ↔ covers d ∧ level < v))
    ∧ (t.kind = .verdict → (t.matched d adv net cs = true ↔ ∃ c ∈ cs, c.verdict ≠ .pass ∧ covers c.start)))
  ∧ ∀ (d : Nat) (adv : Bool) (net : List Int) (cs : List Classified) (s : State),
    let released := s.trig.map fun t =>
      if t.base ≤ d ∧ d < t.base + spanOf t.spanCode then t else { t with suppress := false }
    let acts := fun t : Trigger => t.matched d adv net cs && t.enable && !t.suppress
    let s1 : State := { s with trig := released.map fun t => { t with hit := t.hit || t.matched d adv net cs } }
    triggerWork d adv net cs s =
      (if released.any (fun t => acts t && t.actions.hold) || (s.dec.stepMode && !cs.isEmpty) then holdRequest s1 else s1,
       { marks := released.map fun t => acts t && t.actions.mark
         capture := released.any fun t => acts t && t.actions.capture })

/-- A hold request enters HELD from APPROACH, ENGAGE and SEATING, with the hold state set and HOLD raised with the hold
depth; any other phase ignores it. -/
def Obligations.HoldRequestEntersHeld : Prop :=
  ∀ s : State,
    (s.seq.phase = .approach ∨ s.seq.phase = .engage ∨ s.seq.phase = .seating →
      holdRequest s = raise .hold (.depth s.seq.highWater)
        { s with
          seq := { s.seq with phase := .held, heldFrom := some s.seq.phase, holdDepth := some s.seq.highWater }
          line := { s.line with hold := true } })
    ∧ (¬(s.seq.phase = .approach ∨ s.seq.phase = .engage ∨ s.seq.phase = .seating) → holdRequest s = s)

/-- STALL: the running-out of a running timer aborts with STALL, the stop latch set and the phase ABORTED; a stopped timer
does not run out. TOO_LONG and CAPTURE_FREEZE are the SAMPLE frames that end so (log 6): where the frame's handling does,
each does what SAMPLE_FRAME does with it. -/
def Obligations.StallTooLongAndCaptureFreeze : Prop :=
  (∀ s : State, s.live = true →
      (s.seq.stallTimer = none → exec .stall s = .next s)
      ∧ (s.seq.stallTimer ≠ none → exec .stall s = .next (abort .stall .absent s)
        ∧ (abort .stall .absent s).seq.phase = .aborted ∧ (abort .stall .absent s).line = { stop := true, hold := false })
  )
  ∧ (∀ (s : State) (body : List Byte) (check : Word16),
      (endsTooLong body check s = true →
        exec (.tooLong body check) s = exec (.sampleFrame body check) s
        ∧ ∃ t, exec (.tooLong body check) s = .next t ∧ t.seq.phase = .aborted ∧ t.line.stop = s.line.stop
          ∧ t.rcd.last = some .abort ∧ CauseSet.has t.evt.pending .tooLong = true)
      ∧ (endsCountdown body check s = true →
        exec (.captureFreeze body check) s = exec (.sampleFrame body check) s
        ∧ ∃ t, exec (.captureFreeze body check) s = .next t ∧ t.cap.state = .frozen ∧ t.cap.countdown = 0
          ∧ CauseSet.has t.evt.pending .captureDone = true))

/-- An abort: timer stopped, UNTESTED entries ABORTED and the window set emptied, the reason's cause, the close with the
reason and no seat depth, hold cleared and the stop latch set by the reasons that set it, phase ABORTED. -/
def Obligations.AbortEndsStroke : Prop :=
  ∀ (r : AbortReason) (d : Detail) (s : State), r ≠ .disarm →
    ∃ k : Cause, r.cause = some k ∧ k.code = (if r = .crush then 1 else if r = .overtravel then 2
        else if r = .earlySeat then 3 else if r = .stall then 4 else if r = .sensorLink then 5 else if r = .creep then 6
        else if r = .pinFail then 7 else if r = .reversal then 8 else if r = .tare then 9 else 10)
      ∧ let m : State := { s with
          seq := { s.seq with stallTimer := none }
          win := { s.win with
            map := s.win.map.map fun e => if e.verdict = .untested then { verdict := .aborted, estimate := none } else e
            openSet := [] } }
        let u := closeStroke (some r) none (raise k d m)
        abort r d s = { u with
          line := { stop := s.line.stop || !decide (r = .reversal ∨ r = .tare ∨ r = .tooLong), hold := false }
          seq := { u.seq with phase := .aborted } }

/-- The close: the record with the outcome ABORT, FAIL or PASS enters the history of 8, the outcomes move, the verdict frame
is handed over, then STROKE_PASS or STROKE_FAIL is raised. -/
def Obligations.CloseRecordsStroke : Prop :=
  ∀ (reason : Option AbortReason) (seat : Option Nat) (s : State),
    let o : StrokeOutcome := if reason ≠ none then .abort else if 0 < s.win.failTotal then .fail else .pass
    let r : StrokeRecord :=
      { strokeNumber := s.seq.strokeNumber, tag := s.seq.tag, slot := s.load.activeSlot.getD 0
        profileId := s.profile.header.profileId, outcome := o, reason := reason, seatDepth := seat, peak := s.seq.peak
        counts := countsOf s.win.map, failTotal := s.win.failTotal, failList := s.win.failList
        missing := min 65535 s.sns.missing, stale := min 65535 s.sns.stale, sampleCount := s.seq.sampleCount }
    closeStroke reason seat s = raise (if o = .pass then .strokePass else .strokeFail) .absent
      (handOver (.verdict { strokeNumber := s.seq.strokeNumber, outcome := o, reason := reason
                            counts := countsOf s.win.map, failTotal := s.win.failTotal
                            first := s.win.failList.head? })
        { s with rcd := { history := (s.rcd.history ++ [r]).drop (s.rcd.history.length + 1 - 8)
                          last := some o, previous := s.rcd.last } })

/-- An entry to IDLE: timer stopped, hold cleared, and the staged tables swapped in when READY, the map rebuilt, or the
swap marked pending while they load. -/
def Obligations.EntryToIdle : Prop :=
  ∀ s : State,
    let u : State := { s with seq := { s.seq with phase := .idle, stallTimer := none }, line := { s.line with hold := false } }
    (s.load.staged = .absent → enterIdle s = u)
    ∧ (s.load.staged = .loading → enterIdle s = { u with load := { s.load with swapPending := true } })
    ∧ (∀ img, s.load.staged = .ready img → enterIdle s = { u with
        load := { active := .ready img, activeSlot := s.load.stagedSlot, stale := false, staged := .absent
                  stagedSlot := none, swapPending := false }
        win := { s.win with map := img.livePins.map PinRec.freshEntry } })

/-! ### The link (09) -/

/-- Frames on either lane of a port that is UP: a bad one is counted, a good one of another class is sent on unchanged, or
discarded without count at a port not UP; at a port that is not UP nothing is received. A frame passed through stands in the
model's record of SNS-TX in the step of its arrival (log 13). -/
def Obligations.OtherFramesPass : Prop :=
  ∀ (s : State) (f : Frame), s.live = true →
    (s.sns.port = .up → f.cls ≠ 0x01#8 →
      exec (.forwardFrame f) s = .next (
        if badForward f then { s with sns := { s.sns with bad := min 65535 (s.sns.bad + 1) } }
        else if s.ctl.port = .up then { s with tx := { s.tx with fwd := s.tx.fwd ++ [f] } } else s))
    ∧ (s.ctl.port = .up → f.cls ≠ 0x02#8 →
      exec (.returnFrame f) s = .next (
        if badReturn f then { s with ctl := { s.ctl with bad := min 65535 (s.ctl.bad + 1) } }
        else if s.sns.port = .up then { s with snsTx := s.snsTx ++ [frameBytes f] } else s))
    ∧ (s.ctl.port = .up → badReturn f = true →
      exec (.controllerPortBadFrame f) s = .next { s with ctl := { s.ctl with bad := min 65535 (s.ctl.bad + 1) } })
    ∧ (s.sns.port ≠ .up → exec (.forwardFrame f) s = .next s ∧ exec (.sampleFrame f.body f.check) s = .next s)
    ∧ (s.ctl.port ≠ .up → exec (.returnFrame f) s = .next s ∧ exec (.commandFrame f.body f.check) s = .next s)

/-- A good COMMAND frame: broadcast to 63 is passed through and consumed, one that matches under the unit mask is consumed,
any other is passed through (and stands in the record of SNS-TX at once, log 13); consumed it joins a wait list of less than
8, or is discarded and counted as bad. -/
def Obligations.CommandFrameRouting : Prop :=
  ∀ (s : State) (body : List Byte) (check : Word16), s.live = true → s.ctl.port = .up →
    let f : Frame := { cls := 0x02#8, body := body, check := check }
    let pass : State → State := fun s => if s.sns.port = .up then { s with snsTx := s.snsTx ++ [frameBytes f] } else s
    let take : State → State := fun s =>
      if s.ctl.waitList.length < 8 then
        settleHand { s with ctl := { s.ctl with waitList := s.ctl.waitList ++ [readCommand body] } }
      else { s with ctl := { s.ctl with bad := min 65535 (s.ctl.bad + 1) } }
    badReturn f = false →
    exec (.commandFrame body check) s = .next (
      if commandDest body = 63#6 then take (pass s)
      else if commandDest body &&& s.dec.unitMask = s.unitAddr &&& s.dec.unitMask then take s
      else pass s)

/-- TRANSMIT_FRAME with the port UP and the lane free: a waiting forwarded frame first, else the head of the insert queue,
which leaves it; FRAME_SENT frees the lane, the frame sent whole: class, length, body and check in bytes, most significant
byte first, at the end of the model's own record of CTL-TX, an inserted one counted in its counter of frames sent (log 12).
DROP_REPORT: with the flag set, the port UP and the queue not full, one DROP event frame, with the stroke number and depth of
the raising that set the flag (log 18) and the drop counter as it stands, joins the queue and the flag clears; else nothing. -/
def Obligations.TransmitterEvents : Prop :=
  (∀ s : State, s.live = true →
      (s.ctl.port = .up → s.tx.lane = none →
        (∀ f rest, s.tx.fwd = f :: rest →
          exec .transmitFrame s = .next { s with tx := { s.tx with lane := some (.forwarded f), fwd := rest } })
        ∧ (∀ i rest, s.tx.fwd = [] → s.tx.queue = i :: rest →
          exec .transmitFrame s = .next { s with tx := { s.tx with lane := some (.inserted i), queue := rest } })
        ∧ (s.tx.fwd = [] → s.tx.queue = [] → exec .transmitFrame s = .next s))
      ∧ (∀ o, s.tx.lane = some o → exec .transmitFrame s = .next s
        ∧ exec .frameSent s = .next { s with tx := { s.tx with
            lane := none
            ctlTx := s.tx.ctlTx ++ [o.frame.cls :: BitVec.ofNat 8 o.frame.body.length :: o.frame.body
              ++ [BitVec.ofNat 8 (o.frame.check.toNat / 256), BitVec.ofNat 8 (o.frame.check.toNat % 256)]]
            sent := s.tx.sent + (match o with | .inserted _ => 1 | .forwarded _ => 0) } }))
  ∧ (∀ s : State, s.live = true →
      (∀ d, s.evt.dropOwed = some d → s.ctl.port = .up → s.tx.queue.length < 32 →
        exec .dropReport s = .next { s with
          tx := { s.tx with
            queue := s.tx.queue ++ [.event .drop d.strokeNumber d.depth (.count s.tx.drop)]
            created := s.tx.created + 1 }
          evt := { s.evt with dropOwed := none } })
      ∧ (s.evt.dropOwed = none ∨ s.ctl.port ≠ .up ∨ 32 ≤ s.tx.queue.length → exec .dropReport s = .next s))

/-- The ports: DOWN to TRAINING on the idle pattern, TRAINING to UP when training completes and to DOWN when it is lost,
with no cause; the sensor port coming UP unsets the expected number, the controller port coming UP reports an owed DROP, with
the stroke number and depth of the raising that set the flag (log 18). -/
def Obligations.PortsTrain : Prop :=
  ∀ s : State, s.live = true →
    (s.sns.port = .down → exec (.idlePatternSeen .sensor) s = .next { s with sns := { s.sns with port := .training } })
    ∧ (s.ctl.port = .down →
        exec (.idlePatternSeen .controller) s = .next { s with ctl := { s.ctl with port := .training } })
    ∧ (s.sns.port = .training →
        exec (.trainingLost .sensor) s = .next { s with sns := { s.sns with port := .down } }
        ∧ exec (.trainingComplete .sensor) s = .next { s with sns := { s.sns with port := .up, expected := none } })
    ∧ (s.ctl.port = .training →
        exec (.trainingLost .controller) s = .next { s with ctl := { s.ctl with port := .down } }
        ∧ exec (.trainingComplete .controller) s = .next (
            match s.evt.dropOwed with
            | some d =>
              if s.tx.queue.length < 32 then
                { s with
                  ctl := { s.ctl with port := .up }
                  tx := { s.tx with
                    queue := s.tx.queue ++ [.event .drop d.strokeNumber d.depth (.count s.tx.drop)]
                    created := s.tx.created + 1 }
                  evt := { s.evt with dropOwed := none } }
              else { s with ctl := { s.ctl with port := .up } }
            | none => { s with ctl := { s.ctl with port := .up } }))

/-- The loss of the sensor port: a frame being received is counted as bad, the last frame passed through is lost (taken back
from the model's record of SNS-TX, log 13), the port is DOWN; SENSOR_LINK aborts a running stroke, returns ARMED to IDLE, and
is raised in the other phases. The loss of the controller port: the lane, the waiting forwarded frames and the insert queue
are emptied; each inserted frame lost is counted as dropped, with DROP pending and its report owed, and so is the event frame
of CONTROLLER_LINK when the mask holds that cause; a frame arriving is counted as bad; CONTROLLER_LINK is pending; the rest
of the state stands. -/
def Obligations.PortLosses : Prop :=
  (∀ (s : State) (arriving passing : Bool), s.live = true → s.sns.port = .up →
      let u : State := { s with
        sns := { s.sns with port := .down, bad := if arriving then min 65535 (s.sns.bad + 1) else s.sns.bad }
        snsTx := if passing then s.snsTx.dropLast else s.snsTx }
      exec (.sensorPortLoss arriving passing) s = .next (
        if s.seq.phase.inStroke = true then abort .sensorLink .absent u
        else if s.seq.phase = .armed then enterIdle (raise .sensorLink .absent u)
        else raise .sensorLink .absent u))
  ∧ (∀ (s : State) (arriving : Bool), s.live = true → s.ctl.port = .up → s.tx.drop ≤ 65535 →
      let reported := if CauseSet.has s.evt.eventMask .controllerLink = true then 1 else 0
      let lost := (match s.tx.lane with | some (.inserted _) => 1 | _ => 0) + s.tx.queue.length + reported
      exec (.controllerPortLoss arriving) s = .next { s with
        ctl := { s.ctl with port := .down, bad := if arriving then min 65535 (s.ctl.bad + 1) else s.ctl.bad }
        tx := { s.tx with lane := none, fwd := [], queue := [], drop := min 65535 (s.tx.drop + lost)
                          created := s.tx.created + reported }
        evt := { s.evt with
          pending := CauseSet.with (if lost = 0 then s.evt.pending else CauseSet.with s.evt.pending .drop) .controllerLink
          dropOwed := if s.evt.dropOwed = none ∧ 0 < lost ∧ CauseSet.has s.evt.eventMask .drop = true then
              some { strokeNumber := s.seq.strokeNumber, depth := s.sns.latestDepth }
            else s.evt.dropOwed } })

/-! ### Completions (08 R146, R149, R150, R154, R159, R160) -/

/-- COMMIT_DONE and ERASE_DONE: the slot VALID with the image's id and counts, or EMPTY, and NV_DONE ok; or the slot
CORRUPT, PROFILE_FAULT, and NV_DONE fail. PROTECT_DONE and CLEAR_PROTECT_DONE: each bit keeps the value read back, and
NV_DONE is ok when the bits hold the intended values. -/
def Obligations.WritesAndProtectComplete : Prop :=
  (∀ (s : State) (slot : Nat), s.live = true →
      let done : Bool → SlotContent → SlotState → State := fun ok content entry =>
        let u : State := { s with store := { s.store with
          slots := s.store.slots.set slot content, directory := s.store.directory.set slot entry, nvOp := none } }
        raise .nvDone (.nv (some slot) ok) (if ok then u else raise .profileFault (.slot slot) u)
      let b := s.store.buffer
      (s.store.nvOp = some (.commit slot) →
        exec (.commitDone true) s = .next (done true (.image b.stored (imageCheck b.stored))
          (.valid b.header.profileId b.header.groupCount b.header.pinCount))
        ∧ exec (.commitDone false) s = .next (done false .broken .corrupt))
      ∧ (s.store.nvOp = some (.erase slot) →
        exec (.eraseDone true) s = .next (done true .erased .empty)
        ∧ exec (.eraseDone false) s = .next (done false .broken .corrupt)))
  ∧ (∀ (s : State) (back : BitVec 24), s.live = true →
      let done : Option Nat → Bool → State := fun slot ok =>
        raise .nvDone (.nv slot ok) { s with store := { s.store with protect := back, nvOp := none } }
      (∀ slot, s.store.nvOp = some (.protect slot) → exec (.protectDone back) s = .next (
        done (some slot) (decide (back = s.store.protect ||| BitVec.twoPow 24 slot))))
      ∧ (s.store.nvOp = some .clearProtect →
        exec (.clearProtectDone back) s = .next (done none (decide (back = 0)))))

/-- EDIT_LOAD_DONE, ACTIVE_LOAD_DONE and STAGED_LOAD_DONE. Check passes: the buffer takes the profile, the records beyond
its counts cleared; the active tables READY and the map rebuilt; the staged tables READY, or swapped in when a swap is
pending. Memory changed: the slot CORRUPT and PROFILE_FAULT raised; the buffer emptied and NV_DONE fail; the active tables
absent with their slot; the staged tables absent with their slot, no swap pending. -/
def Obligations.LoadsCompleteOrFail : Prop :=
  (∀ (s : State) (slot : Nat) (img : Image), s.live = true → s.content slot = .image img (imageCheck img) →
      (s.store.nvOp = some (.editLoad slot) →
        exec (.editLoadDone true) s = .next (raise .nvDone (.nv (some slot) true) { s with store := { s.store with
          nvOp := none
          buffer := { header := img.header
                      groups := img.groups ++ List.replicate (96 - img.groups.length) {}
                      pins := img.pins ++ List.replicate (640 - img.pins.length) {} } } }))
      ∧ (s.load.active = .loading → s.load.activeSlot = some slot →
        exec (.activeLoadDone true) s = .next { s with
          load := { s.load with active := .ready img }
          win := { s.win with map := img.livePins.map PinRec.freshEntry } })
      ∧ (s.load.staged = .loading → s.load.stagedSlot = some slot →
        exec (.stagedLoadDone true) s = .next (
          if s.load.swapPending = true then { s with
            load := { active := .ready img, activeSlot := some slot, stale := false, staged := .absent, stagedSlot := none
                      swapPending := false }
            win := { s.win with map := img.livePins.map PinRec.freshEntry } }
          else { s with load := { s.load with staged := .ready img } })))
  ∧ (∀ (s : State) (slot : Nat), s.live = true →
      let spoilt : StoreState := { s.store with
        slots := s.store.slots.set slot .broken, directory := s.store.directory.set slot .corrupt }
      (s.store.nvOp = some (.editLoad slot) →
        exec (.editLoadDone false) s = .next (raise .nvDone (.nv (some slot) false) (raise .profileFault (.slot slot)
          { s with store := { spoilt with buffer := Image.cleared, nvOp := none } })))
      ∧ (s.load.active = .loading → s.load.activeSlot = some slot →
        exec (.activeLoadDone false) s = .next (raise .profileFault (.slot slot)
          { s with store := spoilt, load := { s.load with active := .absent, activeSlot := none } }))
      ∧ (s.load.staged = .loading → s.load.stagedSlot = some slot →
        exec (.stagedLoadDone false) s = .next (raise .profileFault (.slot slot)
          { s with store := spoilt
                   load := { s.load with staged := .absent, stagedSlot := none, swapPending := false } })))

end
end

