-- ==== Sys2Proof/Laws/State.lean ====
section
/-! SUPPORT. The one-block updates: which blocks each leaves as they stand (one simp lemma a block, by the conjunctions). -/

namespace Sys2Proof.Machine

@[simp] theorem countDrop_frame (s : State) :
    (countDrop s).powered = s.powered ∧ (countDrop s).nrstHigh = s.nrstHigh ∧ (countDrop s).wpHigh = s.wpHigh ∧
    (countDrop s).lockenHigh = s.lockenHigh ∧ (countDrop s).unitAddr = s.unitAddr ∧ (countDrop s).seq = s.seq ∧
    (countDrop s).win = s.win ∧ (countDrop s).line = s.line ∧ (countDrop s).trig = s.trig ∧
    (countDrop s).cap = s.cap ∧ (countDrop s).rcd = s.rcd ∧ (countDrop s).evt = s.evt ∧ (countDrop s).sns = s.sns ∧
    (countDrop s).ctl = s.ctl ∧ (countDrop s).store = s.store ∧ (countDrop s).load = s.load ∧
    (countDrop s).dec = s.dec ∧ (countDrop s).snsTx = s.snsTx ∧ (countDrop s).freeIdx = s.freeIdx ∧
    (countDrop s).pending = s.pending := by
  exact ⟨rfl, rfl, rfl, rfl, rfl, rfl, rfl, rfl, rfl, rfl, rfl, rfl, rfl, rfl, rfl, rfl, rfl, rfl, rfl, rfl⟩

@[simp] theorem raiseDrop_frame (s : State) :
    (raiseDrop s).powered = s.powered ∧ (raiseDrop s).nrstHigh = s.nrstHigh ∧ (raiseDrop s).wpHigh = s.wpHigh ∧
    (raiseDrop s).lockenHigh = s.lockenHigh ∧ (raiseDrop s).unitAddr = s.unitAddr ∧ (raiseDrop s).seq = s.seq ∧
    (raiseDrop s).win = s.win ∧ (raiseDrop s).line = s.line ∧ (raiseDrop s).trig = s.trig ∧
    (raiseDrop s).cap = s.cap ∧ (raiseDrop s).rcd = s.rcd ∧ (raiseDrop s).sns = s.sns ∧ (raiseDrop s).ctl = s.ctl ∧
    (raiseDrop s).tx = s.tx ∧ (raiseDrop s).store = s.store ∧ (raiseDrop s).load = s.load ∧
    (raiseDrop s).dec = s.dec ∧ (raiseDrop s).snsTx = s.snsTx ∧ (raiseDrop s).freeIdx = s.freeIdx ∧
    (raiseDrop s).pending = s.pending := by
  exact ⟨rfl, rfl, rfl, rfl, rfl, rfl, rfl, rfl, rfl, rfl, rfl, rfl, rfl, rfl, rfl, rfl, rfl, rfl, rfl, rfl⟩

@[simp] theorem countSensorBad_frame (s : State) :
    (countSensorBad s).powered = s.powered ∧ (countSensorBad s).nrstHigh = s.nrstHigh ∧
    (countSensorBad s).wpHigh = s.wpHigh ∧ (countSensorBad s).lockenHigh = s.lockenHigh ∧
    (countSensorBad s).unitAddr = s.unitAddr ∧ (countSensorBad s).seq = s.seq ∧ (countSensorBad s).win = s.win ∧
    (countSensorBad s).line = s.line ∧ (countSensorBad s).trig = s.trig ∧ (countSensorBad s).cap = s.cap ∧
    (countSensorBad s).rcd = s.rcd ∧ (countSensorBad s).evt = s.evt ∧ (countSensorBad s).ctl = s.ctl ∧
    (countSensorBad s).tx = s.tx ∧ (countSensorBad s).store = s.store ∧ (countSensorBad s).load = s.load ∧
    (countSensorBad s).dec = s.dec ∧ (countSensorBad s).snsTx = s.snsTx ∧ (countSensorBad s).freeIdx = s.freeIdx ∧
    (countSensorBad s).pending = s.pending := by
  exact ⟨rfl, rfl, rfl, rfl, rfl, rfl, rfl, rfl, rfl, rfl, rfl, rfl, rfl, rfl, rfl, rfl, rfl, rfl, rfl, rfl⟩

@[simp] theorem countControllerBad_frame (s : State) :
    (countControllerBad s).powered = s.powered ∧ (countControllerBad s).nrstHigh = s.nrstHigh ∧
    (countControllerBad s).wpHigh = s.wpHigh ∧ (countControllerBad s).lockenHigh = s.lockenHigh ∧
    (countControllerBad s).unitAddr = s.unitAddr ∧ (countControllerBad s).seq = s.seq ∧
    (countControllerBad s).win = s.win ∧ (countControllerBad s).line = s.line ∧
    (countControllerBad s).trig = s.trig ∧ (countControllerBad s).cap = s.cap ∧ (countControllerBad s).rcd = s.rcd ∧
    (countControllerBad s).evt = s.evt ∧ (countControllerBad s).sns = s.sns ∧ (countControllerBad s).tx = s.tx ∧
    (countControllerBad s).store = s.store ∧ (countControllerBad s).load = s.load ∧
    (countControllerBad s).dec = s.dec ∧ (countControllerBad s).snsTx = s.snsTx ∧
    (countControllerBad s).freeIdx = s.freeIdx ∧ (countControllerBad s).pending = s.pending := by
  exact ⟨rfl, rfl, rfl, rfl, rfl, rfl, rfl, rfl, rfl, rfl, rfl, rfl, rfl, rfl, rfl, rfl, rfl, rfl, rfl, rfl⟩

@[simp] theorem enterRecord_frame (r : StrokeRecord) (s : State) :
    (enterRecord r s).powered = s.powered ∧ (enterRecord r s).nrstHigh = s.nrstHigh ∧
    (enterRecord r s).wpHigh = s.wpHigh ∧ (enterRecord r s).lockenHigh = s.lockenHigh ∧
    (enterRecord r s).unitAddr = s.unitAddr ∧ (enterRecord r s).seq = s.seq ∧ (enterRecord r s).win = s.win ∧
    (enterRecord r s).line = s.line ∧ (enterRecord r s).trig = s.trig ∧ (enterRecord r s).cap = s.cap ∧
    (enterRecord r s).evt = s.evt ∧ (enterRecord r s).sns = s.sns ∧ (enterRecord r s).ctl = s.ctl ∧
    (enterRecord r s).tx = s.tx ∧ (enterRecord r s).store = s.store ∧ (enterRecord r s).load = s.load ∧
    (enterRecord r s).dec = s.dec ∧ (enterRecord r s).snsTx = s.snsTx ∧ (enterRecord r s).freeIdx = s.freeIdx ∧
    (enterRecord r s).pending = s.pending := by
  exact ⟨rfl, rfl, rfl, rfl, rfl, rfl, rfl, rfl, rfl, rfl, rfl, rfl, rfl, rfl, rfl, rfl, rfl, rfl, rfl, rfl⟩

@[simp] theorem stopTimer_frame (s : State) :
    (stopTimer s).powered = s.powered ∧ (stopTimer s).nrstHigh = s.nrstHigh ∧ (stopTimer s).wpHigh = s.wpHigh ∧
    (stopTimer s).lockenHigh = s.lockenHigh ∧ (stopTimer s).unitAddr = s.unitAddr ∧ (stopTimer s).win = s.win ∧
    (stopTimer s).line = s.line ∧ (stopTimer s).trig = s.trig ∧ (stopTimer s).cap = s.cap ∧
    (stopTimer s).rcd = s.rcd ∧ (stopTimer s).evt = s.evt ∧ (stopTimer s).sns = s.sns ∧ (stopTimer s).ctl = s.ctl ∧
    (stopTimer s).tx = s.tx ∧ (stopTimer s).store = s.store ∧ (stopTimer s).load = s.load ∧
    (stopTimer s).dec = s.dec ∧ (stopTimer s).snsTx = s.snsTx ∧ (stopTimer s).freeIdx = s.freeIdx ∧
    (stopTimer s).pending = s.pending := by
  exact ⟨rfl, rfl, rfl, rfl, rfl, rfl, rfl, rfl, rfl, rfl, rfl, rfl, rfl, rfl, rfl, rfl, rfl, rfl, rfl, rfl⟩

@[simp] theorem markAbort_frame (s : State) :
    (markAbort s).powered = s.powered ∧ (markAbort s).nrstHigh = s.nrstHigh ∧ (markAbort s).wpHigh = s.wpHigh ∧
    (markAbort s).lockenHigh = s.lockenHigh ∧ (markAbort s).unitAddr = s.unitAddr ∧ (markAbort s).seq = s.seq ∧
    (markAbort s).line = s.line ∧ (markAbort s).trig = s.trig ∧ (markAbort s).cap = s.cap ∧
    (markAbort s).rcd = s.rcd ∧ (markAbort s).evt = s.evt ∧ (markAbort s).sns = s.sns ∧ (markAbort s).ctl = s.ctl ∧
    (markAbort s).tx = s.tx ∧ (markAbort s).store = s.store ∧ (markAbort s).load = s.load ∧
    (markAbort s).dec = s.dec ∧ (markAbort s).snsTx = s.snsTx ∧ (markAbort s).freeIdx = s.freeIdx ∧
    (markAbort s).pending = s.pending := by
  exact ⟨rfl, rfl, rfl, rfl, rfl, rfl, rfl, rfl, rfl, rfl, rfl, rfl, rfl, rfl, rfl, rfl, rfl, rfl, rfl, rfl⟩

@[simp] theorem abortLines_frame (r : AbortReason) (s : State) :
    (abortLines r s).powered = s.powered ∧ (abortLines r s).nrstHigh = s.nrstHigh ∧
    (abortLines r s).wpHigh = s.wpHigh ∧ (abortLines r s).lockenHigh = s.lockenHigh ∧
    (abortLines r s).unitAddr = s.unitAddr ∧ (abortLines r s).seq = s.seq ∧ (abortLines r s).win = s.win ∧
    (abortLines r s).trig = s.trig ∧ (abortLines r s).cap = s.cap ∧ (abortLines r s).rcd = s.rcd ∧
    (abortLines r s).evt = s.evt ∧ (abortLines r s).sns = s.sns ∧ (abortLines r s).ctl = s.ctl ∧
    (abortLines r s).tx = s.tx ∧ (abortLines r s).store = s.store ∧ (abortLines r s).load = s.load ∧
    (abortLines r s).dec = s.dec ∧ (abortLines r s).snsTx = s.snsTx ∧ (abortLines r s).freeIdx = s.freeIdx ∧
    (abortLines r s).pending = s.pending := by
  exact ⟨rfl, rfl, rfl, rfl, rfl, rfl, rfl, rfl, rfl, rfl, rfl, rfl, rfl, rfl, rfl, rfl, rfl, rfl, rfl, rfl⟩

@[simp] theorem swapTables_frame (img : Image) (s : State) :
    (swapTables img s).powered = s.powered ∧ (swapTables img s).nrstHigh = s.nrstHigh ∧
    (swapTables img s).wpHigh = s.wpHigh ∧ (swapTables img s).lockenHigh = s.lockenHigh ∧
    (swapTables img s).unitAddr = s.unitAddr ∧ (swapTables img s).seq = s.seq ∧ (swapTables img s).line = s.line ∧
    (swapTables img s).trig = s.trig ∧ (swapTables img s).cap = s.cap ∧ (swapTables img s).rcd = s.rcd ∧
    (swapTables img s).evt = s.evt ∧ (swapTables img s).sns = s.sns ∧ (swapTables img s).ctl = s.ctl ∧
    (swapTables img s).tx = s.tx ∧ (swapTables img s).store = s.store ∧ (swapTables img s).dec = s.dec ∧
    (swapTables img s).snsTx = s.snsTx ∧ (swapTables img s).freeIdx = s.freeIdx ∧
    (swapTables img s).pending = s.pending := by
  exact ⟨rfl, rfl, rfl, rfl, rfl, rfl, rfl, rfl, rfl, rfl, rfl, rfl, rfl, rfl, rfl, rfl, rfl, rfl, rfl⟩

@[simp] theorem setDirectory_frame (slot : Nat) (d : SlotState) (s : State) :
    (setDirectory slot d s).powered = s.powered ∧ (setDirectory slot d s).nrstHigh = s.nrstHigh ∧
    (setDirectory slot d s).wpHigh = s.wpHigh ∧ (setDirectory slot d s).lockenHigh = s.lockenHigh ∧
    (setDirectory slot d s).unitAddr = s.unitAddr ∧ (setDirectory slot d s).seq = s.seq ∧
    (setDirectory slot d s).win = s.win ∧ (setDirectory slot d s).line = s.line ∧
    (setDirectory slot d s).trig = s.trig ∧ (setDirectory slot d s).cap = s.cap ∧
    (setDirectory slot d s).rcd = s.rcd ∧ (setDirectory slot d s).evt = s.evt ∧ (setDirectory slot d s).sns = s.sns ∧
    (setDirectory slot d s).ctl = s.ctl ∧ (setDirectory slot d s).tx = s.tx ∧ (setDirectory slot d s).load = s.load ∧
    (setDirectory slot d s).dec = s.dec ∧ (setDirectory slot d s).snsTx = s.snsTx ∧
    (setDirectory slot d s).freeIdx = s.freeIdx ∧ (setDirectory slot d s).pending = s.pending := by
  exact ⟨rfl, rfl, rfl, rfl, rfl, rfl, rfl, rfl, rfl, rfl, rfl, rfl, rfl, rfl, rfl, rfl, rfl, rfl, rfl, rfl⟩

@[simp] theorem setContent_frame (slot : Nat) (c : SlotContent) (s : State) :
    (setContent slot c s).powered = s.powered ∧ (setContent slot c s).nrstHigh = s.nrstHigh ∧
    (setContent slot c s).wpHigh = s.wpHigh ∧ (setContent slot c s).lockenHigh = s.lockenHigh ∧
    (setContent slot c s).unitAddr = s.unitAddr ∧ (setContent slot c s).seq = s.seq ∧
    (setContent slot c s).win = s.win ∧ (setContent slot c s).line = s.line ∧ (setContent slot c s).trig = s.trig ∧
    (setContent slot c s).cap = s.cap ∧ (setContent slot c s).rcd = s.rcd ∧ (setContent slot c s).evt = s.evt ∧
    (setContent slot c s).sns = s.sns ∧ (setContent slot c s).ctl = s.ctl ∧ (setContent slot c s).tx = s.tx ∧
    (setContent slot c s).load = s.load ∧ (setContent slot c s).dec = s.dec ∧ (setContent slot c s).snsTx = s.snsTx ∧
    (setContent slot c s).freeIdx = s.freeIdx ∧ (setContent slot c s).pending = s.pending := by
  exact ⟨rfl, rfl, rfl, rfl, rfl, rfl, rfl, rfl, rfl, rfl, rfl, rfl, rfl, rfl, rfl, rfl, rfl, rfl, rfl, rfl⟩

@[simp] theorem setNvOp_frame (op : Option NvOp) (s : State) :
    (setNvOp op s).powered = s.powered ∧ (setNvOp op s).nrstHigh = s.nrstHigh ∧ (setNvOp op s).wpHigh = s.wpHigh ∧
    (setNvOp op s).lockenHigh = s.lockenHigh ∧ (setNvOp op s).unitAddr = s.unitAddr ∧ (setNvOp op s).seq = s.seq ∧
    (setNvOp op s).win = s.win ∧ (setNvOp op s).line = s.line ∧ (setNvOp op s).trig = s.trig ∧
    (setNvOp op s).cap = s.cap ∧ (setNvOp op s).rcd = s.rcd ∧ (setNvOp op s).evt = s.evt ∧
    (setNvOp op s).sns = s.sns ∧ (setNvOp op s).ctl = s.ctl ∧ (setNvOp op s).tx = s.tx ∧
    (setNvOp op s).load = s.load ∧ (setNvOp op s).dec = s.dec ∧ (setNvOp op s).snsTx = s.snsTx ∧
    (setNvOp op s).freeIdx = s.freeIdx ∧ (setNvOp op s).pending = s.pending := by
  exact ⟨rfl, rfl, rfl, rfl, rfl, rfl, rfl, rfl, rfl, rfl, rfl, rfl, rfl, rfl, rfl, rfl, rfl, rfl, rfl, rfl⟩

@[simp] theorem setBuffer_frame (img : Image) (s : State) :
    (setBuffer img s).powered = s.powered ∧ (setBuffer img s).nrstHigh = s.nrstHigh ∧
    (setBuffer img s).wpHigh = s.wpHigh ∧ (setBuffer img s).lockenHigh = s.lockenHigh ∧
    (setBuffer img s).unitAddr = s.unitAddr ∧ (setBuffer img s).seq = s.seq ∧ (setBuffer img s).win = s.win ∧
    (setBuffer img s).line = s.line ∧ (setBuffer img s).trig = s.trig ∧ (setBuffer img s).cap = s.cap ∧
    (setBuffer img s).rcd = s.rcd ∧ (setBuffer img s).evt = s.evt ∧ (setBuffer img s).sns = s.sns ∧
    (setBuffer img s).ctl = s.ctl ∧ (setBuffer img s).tx = s.tx ∧ (setBuffer img s).load = s.load ∧
    (setBuffer img s).dec = s.dec ∧ (setBuffer img s).snsTx = s.snsTx ∧ (setBuffer img s).freeIdx = s.freeIdx ∧
    (setBuffer img s).pending = s.pending := by
  exact ⟨rfl, rfl, rfl, rfl, rfl, rfl, rfl, rfl, rfl, rfl, rfl, rfl, rfl, rfl, rfl, rfl, rfl, rfl, rfl, rfl⟩

@[simp] theorem lockAll_frame (s : State) :
    (lockAll s).powered = s.powered ∧ (lockAll s).nrstHigh = s.nrstHigh ∧ (lockAll s).wpHigh = s.wpHigh ∧
    (lockAll s).lockenHigh = s.lockenHigh ∧ (lockAll s).unitAddr = s.unitAddr ∧ (lockAll s).seq = s.seq ∧
    (lockAll s).win = s.win ∧ (lockAll s).line = s.line ∧ (lockAll s).trig = s.trig ∧ (lockAll s).cap = s.cap ∧
    (lockAll s).rcd = s.rcd ∧ (lockAll s).evt = s.evt ∧ (lockAll s).sns = s.sns ∧ (lockAll s).ctl = s.ctl ∧
    (lockAll s).tx = s.tx ∧ (lockAll s).load = s.load ∧ (lockAll s).dec = s.dec ∧ (lockAll s).snsTx = s.snsTx ∧
    (lockAll s).freeIdx = s.freeIdx ∧ (lockAll s).pending = s.pending := by
  exact ⟨rfl, rfl, rfl, rfl, rfl, rfl, rfl, rfl, rfl, rfl, rfl, rfl, rfl, rfl, rfl, rfl, rfl, rfl, rfl, rfl⟩

@[simp] theorem countSample_frame (s : State) :
    (countSample s).powered = s.powered ∧ (countSample s).nrstHigh = s.nrstHigh ∧ (countSample s).wpHigh = s.wpHigh ∧
    (countSample s).lockenHigh = s.lockenHigh ∧ (countSample s).unitAddr = s.unitAddr ∧ (countSample s).win = s.win ∧
    (countSample s).line = s.line ∧ (countSample s).trig = s.trig ∧ (countSample s).cap = s.cap ∧
    (countSample s).rcd = s.rcd ∧ (countSample s).evt = s.evt ∧ (countSample s).sns = s.sns ∧
    (countSample s).ctl = s.ctl ∧ (countSample s).tx = s.tx ∧ (countSample s).store = s.store ∧
    (countSample s).load = s.load ∧ (countSample s).dec = s.dec ∧ (countSample s).snsTx = s.snsTx ∧
    (countSample s).freeIdx = s.freeIdx ∧ (countSample s).pending = s.pending := by
  exact ⟨rfl, rfl, rfl, rfl, rfl, rfl, rfl, rfl, rfl, rfl, rfl, rfl, rfl, rfl, rfl, rfl, rfl, rfl, rfl, rfl⟩

@[simp] theorem advance_frame (depth : Nat) (s : State) :
    (advance depth s).powered = s.powered ∧ (advance depth s).nrstHigh = s.nrstHigh ∧
    (advance depth s).wpHigh = s.wpHigh ∧ (advance depth s).lockenHigh = s.lockenHigh ∧
    (advance depth s).unitAddr = s.unitAddr ∧ (advance depth s).win = s.win ∧ (advance depth s).line = s.line ∧
    (advance depth s).trig = s.trig ∧ (advance depth s).cap = s.cap ∧ (advance depth s).rcd = s.rcd ∧
    (advance depth s).evt = s.evt ∧ (advance depth s).sns = s.sns ∧ (advance depth s).ctl = s.ctl ∧
    (advance depth s).tx = s.tx ∧ (advance depth s).store = s.store ∧ (advance depth s).load = s.load ∧
    (advance depth s).dec = s.dec ∧ (advance depth s).snsTx = s.snsTx ∧ (advance depth s).freeIdx = s.freeIdx ∧
    (advance depth s).pending = s.pending := by
  exact ⟨rfl, rfl, rfl, rfl, rfl, rfl, rfl, rfl, rfl, rfl, rfl, rfl, rfl, rfl, rfl, rfl, rfl, rfl, rfl, rfl⟩

@[simp] theorem pushTare_frame (x : Sample) (s : State) :
    (pushTare x s).powered = s.powered ∧ (pushTare x s).nrstHigh = s.nrstHigh ∧ (pushTare x s).wpHigh = s.wpHigh ∧
    (pushTare x s).lockenHigh = s.lockenHigh ∧ (pushTare x s).unitAddr = s.unitAddr ∧ (pushTare x s).win = s.win ∧
    (pushTare x s).line = s.line ∧ (pushTare x s).trig = s.trig ∧ (pushTare x s).cap = s.cap ∧
    (pushTare x s).rcd = s.rcd ∧ (pushTare x s).evt = s.evt ∧ (pushTare x s).sns = s.sns ∧
    (pushTare x s).ctl = s.ctl ∧ (pushTare x s).tx = s.tx ∧ (pushTare x s).store = s.store ∧
    (pushTare x s).load = s.load ∧ (pushTare x s).dec = s.dec ∧ (pushTare x s).snsTx = s.snsTx ∧
    (pushTare x s).freeIdx = s.freeIdx ∧ (pushTare x s).pending = s.pending := by
  exact ⟨rfl, rfl, rfl, rfl, rfl, rfl, rfl, rfl, rfl, rfl, rfl, rfl, rfl, rfl, rfl, rfl, rfl, rfl, rfl, rfl⟩

@[simp] theorem takeContact_frame (x : Sample) (s : State) :
    (takeContact x s).powered = s.powered ∧ (takeContact x s).nrstHigh = s.nrstHigh ∧
    (takeContact x s).wpHigh = s.wpHigh ∧ (takeContact x s).lockenHigh = s.lockenHigh ∧
    (takeContact x s).unitAddr = s.unitAddr ∧ (takeContact x s).win = s.win ∧ (takeContact x s).line = s.line ∧
    (takeContact x s).trig = s.trig ∧ (takeContact x s).cap = s.cap ∧ (takeContact x s).rcd = s.rcd ∧
    (takeContact x s).evt = s.evt ∧ (takeContact x s).sns = s.sns ∧ (takeContact x s).ctl = s.ctl ∧
    (takeContact x s).tx = s.tx ∧ (takeContact x s).store = s.store ∧ (takeContact x s).load = s.load ∧
    (takeContact x s).dec = s.dec ∧ (takeContact x s).snsTx = s.snsTx ∧ (takeContact x s).freeIdx = s.freeIdx ∧
    (takeContact x s).pending = s.pending := by
  exact ⟨rfl, rfl, rfl, rfl, rfl, rfl, rfl, rfl, rfl, rfl, rfl, rfl, rfl, rfl, rfl, rfl, rfl, rfl, rfl, rfl⟩

@[simp] theorem takeReport_frame (w : WinState) (s : State) :
    (takeReport w s).powered = s.powered ∧ (takeReport w s).nrstHigh = s.nrstHigh ∧
    (takeReport w s).wpHigh = s.wpHigh ∧ (takeReport w s).lockenHigh = s.lockenHigh ∧
    (takeReport w s).unitAddr = s.unitAddr ∧ (takeReport w s).line = s.line ∧ (takeReport w s).trig = s.trig ∧
    (takeReport w s).cap = s.cap ∧ (takeReport w s).rcd = s.rcd ∧ (takeReport w s).evt = s.evt ∧
    (takeReport w s).sns = s.sns ∧ (takeReport w s).ctl = s.ctl ∧ (takeReport w s).tx = s.tx ∧
    (takeReport w s).store = s.store ∧ (takeReport w s).load = s.load ∧ (takeReport w s).dec = s.dec ∧
    (takeReport w s).snsTx = s.snsTx ∧ (takeReport w s).freeIdx = s.freeIdx ∧
    (takeReport w s).pending = s.pending := by
  exact ⟨rfl, rfl, rfl, rfl, rfl, rfl, rfl, rfl, rfl, rfl, rfl, rfl, rfl, rfl, rfl, rfl, rfl, rfl, rfl⟩

@[simp] theorem beginApproach_frame (s : State) :
    (beginApproach s).powered = s.powered ∧ (beginApproach s).nrstHigh = s.nrstHigh ∧
    (beginApproach s).wpHigh = s.wpHigh ∧ (beginApproach s).lockenHigh = s.lockenHigh ∧
    (beginApproach s).unitAddr = s.unitAddr ∧ (beginApproach s).win = s.win ∧ (beginApproach s).line = s.line ∧
    (beginApproach s).trig = s.trig ∧ (beginApproach s).cap = s.cap ∧ (beginApproach s).rcd = s.rcd ∧
    (beginApproach s).evt = s.evt ∧ (beginApproach s).sns = s.sns ∧ (beginApproach s).ctl = s.ctl ∧
    (beginApproach s).tx = s.tx ∧ (beginApproach s).store = s.store ∧ (beginApproach s).load = s.load ∧
    (beginApproach s).dec = s.dec ∧ (beginApproach s).snsTx = s.snsTx ∧ (beginApproach s).freeIdx = s.freeIdx ∧
    (beginApproach s).pending = s.pending := by
  exact ⟨rfl, rfl, rfl, rfl, rfl, rfl, rfl, rfl, rfl, rfl, rfl, rfl, rfl, rfl, rfl, rfl, rfl, rfl, rfl, rfl⟩

@[simp] theorem acceptSample_frame (x : Sample) (gap : Nat) (s : State) :
    (acceptSample x gap s).powered = s.powered ∧ (acceptSample x gap s).nrstHigh = s.nrstHigh ∧
    (acceptSample x gap s).wpHigh = s.wpHigh ∧ (acceptSample x gap s).lockenHigh = s.lockenHigh ∧
    (acceptSample x gap s).unitAddr = s.unitAddr ∧ (acceptSample x gap s).seq = s.seq ∧
    (acceptSample x gap s).win = s.win ∧ (acceptSample x gap s).line = s.line ∧
    (acceptSample x gap s).trig = s.trig ∧ (acceptSample x gap s).cap = s.cap ∧ (acceptSample x gap s).rcd = s.rcd ∧
    (acceptSample x gap s).evt = s.evt ∧ (acceptSample x gap s).ctl = s.ctl ∧ (acceptSample x gap s).tx = s.tx ∧
    (acceptSample x gap s).store = s.store ∧ (acceptSample x gap s).load = s.load ∧
    (acceptSample x gap s).dec = s.dec ∧ (acceptSample x gap s).snsTx = s.snsTx ∧
    (acceptSample x gap s).freeIdx = s.freeIdx ∧ (acceptSample x gap s).pending = s.pending := by
  exact ⟨rfl, rfl, rfl, rfl, rfl, rfl, rfl, rfl, rfl, rfl, rfl, rfl, rfl, rfl, rfl, rfl, rfl, rfl, rfl, rfl⟩

@[simp] theorem resumeStroke_frame (s : State) :
    (resumeStroke s).powered = s.powered ∧ (resumeStroke s).nrstHigh = s.nrstHigh ∧
    (resumeStroke s).wpHigh = s.wpHigh ∧ (resumeStroke s).lockenHigh = s.lockenHigh ∧
    (resumeStroke s).unitAddr = s.unitAddr ∧ (resumeStroke s).win = s.win ∧ (resumeStroke s).cap = s.cap ∧
    (resumeStroke s).rcd = s.rcd ∧ (resumeStroke s).evt = s.evt ∧ (resumeStroke s).sns = s.sns ∧
    (resumeStroke s).ctl = s.ctl ∧ (resumeStroke s).tx = s.tx ∧ (resumeStroke s).store = s.store ∧
    (resumeStroke s).load = s.load ∧ (resumeStroke s).dec = s.dec ∧ (resumeStroke s).snsTx = s.snsTx ∧
    (resumeStroke s).freeIdx = s.freeIdx ∧ (resumeStroke s).pending = s.pending := by
  exact ⟨rfl, rfl, rfl, rfl, rfl, rfl, rfl, rfl, rfl, rfl, rfl, rfl, rfl, rfl, rfl, rfl, rfl, rfl⟩

@[simp] theorem beginStroke_frame (tag : List Byte) (s : State) :
    (beginStroke tag s).powered = s.powered ∧ (beginStroke tag s).nrstHigh = s.nrstHigh ∧
    (beginStroke tag s).wpHigh = s.wpHigh ∧ (beginStroke tag s).lockenHigh = s.lockenHigh ∧
    (beginStroke tag s).unitAddr = s.unitAddr ∧ (beginStroke tag s).line = s.line ∧
    (beginStroke tag s).trig = s.trig ∧ (beginStroke tag s).cap = s.cap ∧ (beginStroke tag s).rcd = s.rcd ∧
    (beginStroke tag s).evt = s.evt ∧ (beginStroke tag s).ctl = s.ctl ∧ (beginStroke tag s).tx = s.tx ∧
    (beginStroke tag s).store = s.store ∧ (beginStroke tag s).load = s.load ∧ (beginStroke tag s).dec = s.dec ∧
    (beginStroke tag s).snsTx = s.snsTx ∧ (beginStroke tag s).freeIdx = s.freeIdx ∧
    (beginStroke tag s).pending = s.pending := by
  exact ⟨rfl, rfl, rfl, rfl, rfl, rfl, rfl, rfl, rfl, rfl, rfl, rfl, rfl, rfl, rfl, rfl, rfl, rfl⟩

@[simp] theorem activate_frame (img : Image) (s : State) :
    (activate img s).powered = s.powered ∧ (activate img s).nrstHigh = s.nrstHigh ∧
    (activate img s).wpHigh = s.wpHigh ∧ (activate img s).lockenHigh = s.lockenHigh ∧
    (activate img s).unitAddr = s.unitAddr ∧ (activate img s).seq = s.seq ∧ (activate img s).line = s.line ∧
    (activate img s).trig = s.trig ∧ (activate img s).cap = s.cap ∧ (activate img s).rcd = s.rcd ∧
    (activate img s).evt = s.evt ∧ (activate img s).sns = s.sns ∧ (activate img s).ctl = s.ctl ∧
    (activate img s).tx = s.tx ∧ (activate img s).store = s.store ∧ (activate img s).dec = s.dec ∧
    (activate img s).snsTx = s.snsTx ∧ (activate img s).freeIdx = s.freeIdx ∧
    (activate img s).pending = s.pending := by
  exact ⟨rfl, rfl, rfl, rfl, rfl, rfl, rfl, rfl, rfl, rfl, rfl, rfl, rfl, rfl, rfl, rfl, rfl, rfl, rfl⟩

@[simp] theorem selectActive_frame (slot : Nat) (s : State) :
    (selectActive slot s).powered = s.powered ∧ (selectActive slot s).nrstHigh = s.nrstHigh ∧
    (selectActive slot s).wpHigh = s.wpHigh ∧ (selectActive slot s).lockenHigh = s.lockenHigh ∧
    (selectActive slot s).unitAddr = s.unitAddr ∧ (selectActive slot s).seq = s.seq ∧
    (selectActive slot s).line = s.line ∧ (selectActive slot s).trig = s.trig ∧ (selectActive slot s).cap = s.cap ∧
    (selectActive slot s).rcd = s.rcd ∧ (selectActive slot s).evt = s.evt ∧ (selectActive slot s).sns = s.sns ∧
    (selectActive slot s).ctl = s.ctl ∧ (selectActive slot s).tx = s.tx ∧ (selectActive slot s).store = s.store ∧
    (selectActive slot s).dec = s.dec ∧ (selectActive slot s).snsTx = s.snsTx ∧
    (selectActive slot s).freeIdx = s.freeIdx ∧ (selectActive slot s).pending = s.pending := by
  exact ⟨rfl, rfl, rfl, rfl, rfl, rfl, rfl, rfl, rfl, rfl, rfl, rfl, rfl, rfl, rfl, rfl, rfl, rfl, rfl⟩

@[simp] theorem selectStaged_frame (slot : Nat) (s : State) :
    (selectStaged slot s).powered = s.powered ∧ (selectStaged slot s).nrstHigh = s.nrstHigh ∧
    (selectStaged slot s).wpHigh = s.wpHigh ∧ (selectStaged slot s).lockenHigh = s.lockenHigh ∧
    (selectStaged slot s).unitAddr = s.unitAddr ∧ (selectStaged slot s).seq = s.seq ∧
    (selectStaged slot s).win = s.win ∧ (selectStaged slot s).line = s.line ∧ (selectStaged slot s).trig = s.trig ∧
    (selectStaged slot s).cap = s.cap ∧ (selectStaged slot s).rcd = s.rcd ∧ (selectStaged slot s).evt = s.evt ∧
    (selectStaged slot s).sns = s.sns ∧ (selectStaged slot s).ctl = s.ctl ∧ (selectStaged slot s).tx = s.tx ∧
    (selectStaged slot s).store = s.store ∧ (selectStaged slot s).dec = s.dec ∧
    (selectStaged slot s).snsTx = s.snsTx ∧ (selectStaged slot s).freeIdx = s.freeIdx ∧
    (selectStaged slot s).pending = s.pending := by
  exact ⟨rfl, rfl, rfl, rfl, rfl, rfl, rfl, rfl, rfl, rfl, rfl, rfl, rfl, rfl, rfl, rfl, rfl, rfl, rfl, rfl⟩

@[simp] theorem corruptSlot_frame (slot : Nat) (c : SlotContent) (s : State) :
    (corruptSlot slot c s).powered = s.powered ∧ (corruptSlot slot c s).nrstHigh = s.nrstHigh ∧
    (corruptSlot slot c s).wpHigh = s.wpHigh ∧ (corruptSlot slot c s).lockenHigh = s.lockenHigh ∧
    (corruptSlot slot c s).unitAddr = s.unitAddr ∧ (corruptSlot slot c s).seq = s.seq ∧
    (corruptSlot slot c s).win = s.win ∧ (corruptSlot slot c s).line = s.line ∧
    (corruptSlot slot c s).trig = s.trig ∧ (corruptSlot slot c s).cap = s.cap ∧ (corruptSlot slot c s).rcd = s.rcd ∧
    (corruptSlot slot c s).evt = s.evt ∧ (corruptSlot slot c s).sns = s.sns ∧ (corruptSlot slot c s).ctl = s.ctl ∧
    (corruptSlot slot c s).tx = s.tx ∧ (corruptSlot slot c s).load = s.load ∧ (corruptSlot slot c s).dec = s.dec ∧
    (corruptSlot slot c s).snsTx = s.snsTx ∧ (corruptSlot slot c s).freeIdx = s.freeIdx ∧
    (corruptSlot slot c s).pending = s.pending := by
  exact ⟨rfl, rfl, rfl, rfl, rfl, rfl, rfl, rfl, rfl, rfl, rfl, rfl, rfl, rfl, rfl, rfl, rfl, rfl, rfl, rfl⟩

@[simp] theorem softReset_frame (s : State) :
    (softReset s).powered = s.powered ∧ (softReset s).nrstHigh = s.nrstHigh ∧ (softReset s).wpHigh = s.wpHigh ∧
    (softReset s).lockenHigh = s.lockenHigh ∧ (softReset s).unitAddr = s.unitAddr ∧ (softReset s).ctl = s.ctl ∧
    (softReset s).snsTx = s.snsTx ∧ (softReset s).freeIdx = s.freeIdx ∧ (softReset s).pending = s.pending := by
  exact ⟨rfl, rfl, rfl, rfl, rfl, rfl, rfl, rfl, rfl⟩

@[simp] theorem powerUp_frame (locken : Bool) (addr : BitVec 6) (s : State) :
    (powerUp locken addr s).powered = s.powered ∧ (powerUp locken addr s).nrstHigh = s.nrstHigh ∧
    (powerUp locken addr s).wpHigh = s.wpHigh ∧ (powerUp locken addr s).snsTx = s.snsTx ∧
    (powerUp locken addr s).freeIdx = s.freeIdx ∧ (powerUp locken addr s).pending = s.pending := by
  exact ⟨rfl, rfl, rfl, rfl, rfl, rfl⟩

@[simp] theorem cutOperation_frame (s : State) :
    (cutOperation s).powered = s.powered ∧ (cutOperation s).nrstHigh = s.nrstHigh ∧
    (cutOperation s).wpHigh = s.wpHigh ∧ (cutOperation s).lockenHigh = s.lockenHigh ∧
    (cutOperation s).unitAddr = s.unitAddr ∧ (cutOperation s).seq = s.seq ∧ (cutOperation s).win = s.win ∧
    (cutOperation s).line = s.line ∧ (cutOperation s).trig = s.trig ∧ (cutOperation s).cap = s.cap ∧
    (cutOperation s).rcd = s.rcd ∧ (cutOperation s).evt = s.evt ∧ (cutOperation s).sns = s.sns ∧
    (cutOperation s).ctl = s.ctl ∧ (cutOperation s).tx = s.tx ∧ (cutOperation s).load = s.load ∧
    (cutOperation s).dec = s.dec ∧ (cutOperation s).snsTx = s.snsTx ∧ (cutOperation s).pending = s.pending := by
  exact ⟨rfl, rfl, rfl, rfl, rfl, rfl, rfl, rfl, rfl, rfl, rfl, rfl, rfl, rfl, rfl, rfl, rfl, rfl, rfl⟩

/-- The peak changes the sequencer only. -/
@[simp] theorem takePeak_frame (x : Sample) (s : State) :
    (takePeak x s).powered = s.powered ∧ (takePeak x s).nrstHigh = s.nrstHigh ∧ (takePeak x s).wpHigh = s.wpHigh ∧
    (takePeak x s).lockenHigh = s.lockenHigh ∧ (takePeak x s).unitAddr = s.unitAddr ∧ (takePeak x s).win = s.win ∧
    (takePeak x s).line = s.line ∧ (takePeak x s).trig = s.trig ∧ (takePeak x s).cap = s.cap ∧
    (takePeak x s).rcd = s.rcd ∧ (takePeak x s).evt = s.evt ∧ (takePeak x s).sns = s.sns ∧
    (takePeak x s).ctl = s.ctl ∧ (takePeak x s).tx = s.tx ∧ (takePeak x s).store = s.store ∧
    (takePeak x s).load = s.load ∧ (takePeak x s).dec = s.dec ∧ (takePeak x s).snsTx = s.snsTx ∧
    (takePeak x s).freeIdx = s.freeIdx ∧ (takePeak x s).pending = s.pending := by
  unfold takePeak; split <;> simp

@[simp] theorem setPort_frame (p : Port) (ps : PortState) (s : State) :
    (setPort p ps s).powered = s.powered ∧ (setPort p ps s).nrstHigh = s.nrstHigh ∧
    (setPort p ps s).wpHigh = s.wpHigh ∧ (setPort p ps s).lockenHigh = s.lockenHigh ∧
    (setPort p ps s).unitAddr = s.unitAddr ∧ (setPort p ps s).seq = s.seq ∧ (setPort p ps s).win = s.win ∧
    (setPort p ps s).line = s.line ∧ (setPort p ps s).trig = s.trig ∧ (setPort p ps s).cap = s.cap ∧
    (setPort p ps s).rcd = s.rcd ∧ (setPort p ps s).evt = s.evt ∧ (setPort p ps s).tx = s.tx ∧
    (setPort p ps s).store = s.store ∧ (setPort p ps s).load = s.load ∧ (setPort p ps s).dec = s.dec ∧
    (setPort p ps s).snsTx = s.snsTx ∧ (setPort p ps s).freeIdx = s.freeIdx ∧
    (setPort p ps s).pending = s.pending := by
  cases p <;> simp [setPort]

end Sys2Proof.Machine
end

