-- ==== Sys2Proof/Laws/Ops.lean ====
section
/-! SUPPORT. The shared operations: which blocks each leaves as they stand (one simp lemma a block, by the conjunctions). -/

namespace Sys2Proof.Machine

@[simp] theorem dropInserted_frame (s : State) :
    (dropInserted s).powered = s.powered ∧ (dropInserted s).nrstHigh = s.nrstHigh ∧
    (dropInserted s).wpHigh = s.wpHigh ∧ (dropInserted s).lockenHigh = s.lockenHigh ∧
    (dropInserted s).unitAddr = s.unitAddr ∧ (dropInserted s).seq = s.seq ∧ (dropInserted s).win = s.win ∧
    (dropInserted s).line = s.line ∧ (dropInserted s).trig = s.trig ∧ (dropInserted s).cap = s.cap ∧
    (dropInserted s).rcd = s.rcd ∧ (dropInserted s).sns = s.sns ∧ (dropInserted s).ctl = s.ctl ∧
    (dropInserted s).store = s.store ∧ (dropInserted s).load = s.load ∧ (dropInserted s).dec = s.dec ∧
    (dropInserted s).snsTx = s.snsTx ∧ (dropInserted s).freeIdx = s.freeIdx ∧
    (dropInserted s).pending = s.pending := by
  simp [dropInserted]

@[simp] theorem handOver_frame (i : Inserted) (s : State) :
    (handOver i s).powered = s.powered ∧ (handOver i s).nrstHigh = s.nrstHigh ∧ (handOver i s).wpHigh = s.wpHigh ∧
    (handOver i s).lockenHigh = s.lockenHigh ∧ (handOver i s).unitAddr = s.unitAddr ∧ (handOver i s).seq = s.seq ∧
    (handOver i s).win = s.win ∧ (handOver i s).line = s.line ∧ (handOver i s).trig = s.trig ∧
    (handOver i s).cap = s.cap ∧ (handOver i s).rcd = s.rcd ∧ (handOver i s).sns = s.sns ∧
    (handOver i s).ctl = s.ctl ∧ (handOver i s).store = s.store ∧ (handOver i s).load = s.load ∧
    (handOver i s).dec = s.dec ∧ (handOver i s).snsTx = s.snsTx ∧ (handOver i s).freeIdx = s.freeIdx ∧
    (handOver i s).pending = s.pending := by
  unfold handOver; split <;> simp

@[simp] theorem raise_frame (c : Cause) (d : Detail) (s : State) :
    (raise c d s).powered = s.powered ∧ (raise c d s).nrstHigh = s.nrstHigh ∧ (raise c d s).wpHigh = s.wpHigh ∧
    (raise c d s).lockenHigh = s.lockenHigh ∧ (raise c d s).unitAddr = s.unitAddr ∧ (raise c d s).seq = s.seq ∧
    (raise c d s).win = s.win ∧ (raise c d s).line = s.line ∧ (raise c d s).trig = s.trig ∧
    (raise c d s).cap = s.cap ∧ (raise c d s).rcd = s.rcd ∧ (raise c d s).sns = s.sns ∧ (raise c d s).ctl = s.ctl ∧
    (raise c d s).store = s.store ∧ (raise c d s).load = s.load ∧ (raise c d s).dec = s.dec ∧
    (raise c d s).snsTx = s.snsTx ∧ (raise c d s).freeIdx = s.freeIdx ∧ (raise c d s).pending = s.pending := by
  unfold raise; split <;> simp

@[simp] theorem reportDrop_frame (s : State) :
    (reportDrop s).powered = s.powered ∧ (reportDrop s).nrstHigh = s.nrstHigh ∧ (reportDrop s).wpHigh = s.wpHigh ∧
    (reportDrop s).lockenHigh = s.lockenHigh ∧ (reportDrop s).unitAddr = s.unitAddr ∧ (reportDrop s).seq = s.seq ∧
    (reportDrop s).win = s.win ∧ (reportDrop s).line = s.line ∧ (reportDrop s).trig = s.trig ∧
    (reportDrop s).cap = s.cap ∧ (reportDrop s).rcd = s.rcd ∧ (reportDrop s).sns = s.sns ∧
    (reportDrop s).ctl = s.ctl ∧ (reportDrop s).store = s.store ∧ (reportDrop s).load = s.load ∧
    (reportDrop s).dec = s.dec ∧ (reportDrop s).snsTx = s.snsTx ∧ (reportDrop s).freeIdx = s.freeIdx ∧
    (reportDrop s).pending = s.pending := by
  unfold reportDrop; split
  · simp
  · split <;> simp

@[simp] theorem forward_frame (f : Frame) (s : State) :
    (forward f s).powered = s.powered ∧ (forward f s).nrstHigh = s.nrstHigh ∧ (forward f s).wpHigh = s.wpHigh ∧
    (forward f s).lockenHigh = s.lockenHigh ∧ (forward f s).unitAddr = s.unitAddr ∧ (forward f s).seq = s.seq ∧
    (forward f s).win = s.win ∧ (forward f s).line = s.line ∧ (forward f s).trig = s.trig ∧
    (forward f s).cap = s.cap ∧ (forward f s).rcd = s.rcd ∧ (forward f s).evt = s.evt ∧ (forward f s).sns = s.sns ∧
    (forward f s).ctl = s.ctl ∧ (forward f s).store = s.store ∧ (forward f s).load = s.load ∧
    (forward f s).dec = s.dec ∧ (forward f s).snsTx = s.snsTx ∧ (forward f s).freeIdx = s.freeIdx ∧
    (forward f s).pending = s.pending := by
  unfold forward; split <;> simp

@[simp] theorem passThrough_frame (f : Frame) (s : State) :
    (passThrough f s).powered = s.powered ∧ (passThrough f s).nrstHigh = s.nrstHigh ∧
    (passThrough f s).wpHigh = s.wpHigh ∧ (passThrough f s).lockenHigh = s.lockenHigh ∧
    (passThrough f s).unitAddr = s.unitAddr ∧ (passThrough f s).seq = s.seq ∧ (passThrough f s).win = s.win ∧
    (passThrough f s).line = s.line ∧ (passThrough f s).trig = s.trig ∧ (passThrough f s).cap = s.cap ∧
    (passThrough f s).rcd = s.rcd ∧ (passThrough f s).evt = s.evt ∧ (passThrough f s).sns = s.sns ∧
    (passThrough f s).ctl = s.ctl ∧ (passThrough f s).tx = s.tx ∧ (passThrough f s).store = s.store ∧
    (passThrough f s).load = s.load ∧ (passThrough f s).dec = s.dec ∧ (passThrough f s).freeIdx = s.freeIdx ∧
    (passThrough f s).pending = s.pending := by
  unfold passThrough; split <;> simp

@[simp] theorem closeStroke_frame (r : Option AbortReason) (d : Option Nat) (s : State) :
    (closeStroke r d s).powered = s.powered ∧ (closeStroke r d s).nrstHigh = s.nrstHigh ∧
    (closeStroke r d s).wpHigh = s.wpHigh ∧ (closeStroke r d s).lockenHigh = s.lockenHigh ∧
    (closeStroke r d s).unitAddr = s.unitAddr ∧ (closeStroke r d s).seq = s.seq ∧ (closeStroke r d s).win = s.win ∧
    (closeStroke r d s).line = s.line ∧ (closeStroke r d s).trig = s.trig ∧ (closeStroke r d s).cap = s.cap ∧
    (closeStroke r d s).sns = s.sns ∧ (closeStroke r d s).ctl = s.ctl ∧ (closeStroke r d s).store = s.store ∧
    (closeStroke r d s).load = s.load ∧ (closeStroke r d s).dec = s.dec ∧ (closeStroke r d s).snsTx = s.snsTx ∧
    (closeStroke r d s).freeIdx = s.freeIdx ∧ (closeStroke r d s).pending = s.pending := by
  simp [closeStroke]

@[simp] theorem loaderAtIdle_frame (s : State) :
    (loaderAtIdle s).powered = s.powered ∧ (loaderAtIdle s).nrstHigh = s.nrstHigh ∧
    (loaderAtIdle s).wpHigh = s.wpHigh ∧ (loaderAtIdle s).lockenHigh = s.lockenHigh ∧
    (loaderAtIdle s).unitAddr = s.unitAddr ∧ (loaderAtIdle s).seq = s.seq ∧ (loaderAtIdle s).line = s.line ∧
    (loaderAtIdle s).trig = s.trig ∧ (loaderAtIdle s).cap = s.cap ∧ (loaderAtIdle s).rcd = s.rcd ∧
    (loaderAtIdle s).evt = s.evt ∧ (loaderAtIdle s).sns = s.sns ∧ (loaderAtIdle s).ctl = s.ctl ∧
    (loaderAtIdle s).tx = s.tx ∧ (loaderAtIdle s).store = s.store ∧ (loaderAtIdle s).dec = s.dec ∧
    (loaderAtIdle s).snsTx = s.snsTx ∧ (loaderAtIdle s).freeIdx = s.freeIdx ∧
    (loaderAtIdle s).pending = s.pending := by
  unfold loaderAtIdle; split <;> simp

@[simp] theorem enterIdle_frame (s : State) :
    (enterIdle s).powered = s.powered ∧ (enterIdle s).nrstHigh = s.nrstHigh ∧ (enterIdle s).wpHigh = s.wpHigh ∧
    (enterIdle s).lockenHigh = s.lockenHigh ∧ (enterIdle s).unitAddr = s.unitAddr ∧ (enterIdle s).trig = s.trig ∧
    (enterIdle s).cap = s.cap ∧ (enterIdle s).rcd = s.rcd ∧ (enterIdle s).evt = s.evt ∧ (enterIdle s).sns = s.sns ∧
    (enterIdle s).ctl = s.ctl ∧ (enterIdle s).tx = s.tx ∧ (enterIdle s).store = s.store ∧ (enterIdle s).dec = s.dec ∧
    (enterIdle s).snsTx = s.snsTx ∧ (enterIdle s).freeIdx = s.freeIdx ∧ (enterIdle s).pending = s.pending := by
  simp [enterIdle]

@[simp] theorem raiseReason_frame (r : AbortReason) (d : Detail) (s : State) :
    (raiseReason r d s).powered = s.powered ∧ (raiseReason r d s).nrstHigh = s.nrstHigh ∧
    (raiseReason r d s).wpHigh = s.wpHigh ∧ (raiseReason r d s).lockenHigh = s.lockenHigh ∧
    (raiseReason r d s).unitAddr = s.unitAddr ∧ (raiseReason r d s).seq = s.seq ∧ (raiseReason r d s).win = s.win ∧
    (raiseReason r d s).line = s.line ∧ (raiseReason r d s).trig = s.trig ∧ (raiseReason r d s).cap = s.cap ∧
    (raiseReason r d s).rcd = s.rcd ∧ (raiseReason r d s).sns = s.sns ∧ (raiseReason r d s).ctl = s.ctl ∧
    (raiseReason r d s).store = s.store ∧ (raiseReason r d s).load = s.load ∧ (raiseReason r d s).dec = s.dec ∧
    (raiseReason r d s).snsTx = s.snsTx ∧ (raiseReason r d s).freeIdx = s.freeIdx ∧
    (raiseReason r d s).pending = s.pending := by
  unfold raiseReason; split <;> simp

@[simp] theorem abortBody_frame (r : AbortReason) (d : Detail) (s : State) :
    (abortBody r d s).powered = s.powered ∧ (abortBody r d s).nrstHigh = s.nrstHigh ∧
    (abortBody r d s).wpHigh = s.wpHigh ∧ (abortBody r d s).lockenHigh = s.lockenHigh ∧
    (abortBody r d s).unitAddr = s.unitAddr ∧ (abortBody r d s).trig = s.trig ∧ (abortBody r d s).cap = s.cap ∧
    (abortBody r d s).sns = s.sns ∧ (abortBody r d s).ctl = s.ctl ∧ (abortBody r d s).store = s.store ∧
    (abortBody r d s).load = s.load ∧ (abortBody r d s).dec = s.dec ∧ (abortBody r d s).snsTx = s.snsTx ∧
    (abortBody r d s).freeIdx = s.freeIdx ∧ (abortBody r d s).pending = s.pending := by
  simp [abortBody]

@[simp] theorem abort_frame (r : AbortReason) (d : Detail) (s : State) :
    (abort r d s).powered = s.powered ∧ (abort r d s).nrstHigh = s.nrstHigh ∧ (abort r d s).wpHigh = s.wpHigh ∧
    (abort r d s).lockenHigh = s.lockenHigh ∧ (abort r d s).unitAddr = s.unitAddr ∧ (abort r d s).trig = s.trig ∧
    (abort r d s).cap = s.cap ∧ (abort r d s).sns = s.sns ∧ (abort r d s).ctl = s.ctl ∧
    (abort r d s).store = s.store ∧ (abort r d s).load = s.load ∧ (abort r d s).dec = s.dec ∧
    (abort r d s).snsTx = s.snsTx ∧ (abort r d s).freeIdx = s.freeIdx ∧ (abort r d s).pending = s.pending := by
  simp [abort]

@[simp] theorem abortDisarm_frame (s : State) :
    (abortDisarm s).powered = s.powered ∧ (abortDisarm s).nrstHigh = s.nrstHigh ∧ (abortDisarm s).wpHigh = s.wpHigh ∧
    (abortDisarm s).lockenHigh = s.lockenHigh ∧ (abortDisarm s).unitAddr = s.unitAddr ∧
    (abortDisarm s).trig = s.trig ∧ (abortDisarm s).cap = s.cap ∧ (abortDisarm s).sns = s.sns ∧
    (abortDisarm s).ctl = s.ctl ∧ (abortDisarm s).store = s.store ∧ (abortDisarm s).dec = s.dec ∧
    (abortDisarm s).snsTx = s.snsTx ∧ (abortDisarm s).freeIdx = s.freeIdx ∧ (abortDisarm s).pending = s.pending := by
  simp [abortDisarm]

@[simp] theorem respond_frame (c : Command) (r : Reply) (s : State) :
    (respond c r s).powered = s.powered ∧ (respond c r s).nrstHigh = s.nrstHigh ∧ (respond c r s).wpHigh = s.wpHigh ∧
    (respond c r s).lockenHigh = s.lockenHigh ∧ (respond c r s).unitAddr = s.unitAddr ∧ (respond c r s).seq = s.seq ∧
    (respond c r s).win = s.win ∧ (respond c r s).line = s.line ∧ (respond c r s).trig = s.trig ∧
    (respond c r s).cap = s.cap ∧ (respond c r s).rcd = s.rcd ∧ (respond c r s).sns = s.sns ∧
    (respond c r s).ctl = s.ctl ∧ (respond c r s).store = s.store ∧ (respond c r s).load = s.load ∧
    (respond c r s).dec = s.dec ∧ (respond c r s).snsTx = s.snsTx ∧ (respond c r s).freeIdx = s.freeIdx ∧
    (respond c r s).pending = s.pending := by
  simp [respond]

@[simp] theorem nvFinish_frame (slot : Option Nat) (ok : Bool) (fault : Option Nat) (s : State) :
    (nvFinish slot ok fault s).powered = s.powered ∧ (nvFinish slot ok fault s).nrstHigh = s.nrstHigh ∧
    (nvFinish slot ok fault s).wpHigh = s.wpHigh ∧ (nvFinish slot ok fault s).lockenHigh = s.lockenHigh ∧
    (nvFinish slot ok fault s).unitAddr = s.unitAddr ∧ (nvFinish slot ok fault s).seq = s.seq ∧
    (nvFinish slot ok fault s).win = s.win ∧ (nvFinish slot ok fault s).line = s.line ∧
    (nvFinish slot ok fault s).trig = s.trig ∧ (nvFinish slot ok fault s).cap = s.cap ∧
    (nvFinish slot ok fault s).rcd = s.rcd ∧ (nvFinish slot ok fault s).sns = s.sns ∧
    (nvFinish slot ok fault s).ctl = s.ctl ∧ (nvFinish slot ok fault s).load = s.load ∧
    (nvFinish slot ok fault s).dec = s.dec ∧ (nvFinish slot ok fault s).snsTx = s.snsTx ∧
    (nvFinish slot ok fault s).freeIdx = s.freeIdx ∧ (nvFinish slot ok fault s).pending = s.pending := by
  cases fault <;> simp [nvFinish]

@[simp] theorem promote_frame (cs : List Command) (s : State) :
    (promote cs s).powered = s.powered ∧ (promote cs s).nrstHigh = s.nrstHigh ∧ (promote cs s).wpHigh = s.wpHigh ∧
    (promote cs s).lockenHigh = s.lockenHigh ∧ (promote cs s).unitAddr = s.unitAddr ∧ (promote cs s).seq = s.seq ∧
    (promote cs s).win = s.win ∧ (promote cs s).line = s.line ∧ (promote cs s).trig = s.trig ∧
    (promote cs s).cap = s.cap ∧ (promote cs s).rcd = s.rcd ∧ (promote cs s).sns = s.sns ∧
    (promote cs s).store = s.store ∧ (promote cs s).load = s.load ∧ (promote cs s).snsTx = s.snsTx ∧
    (promote cs s).freeIdx = s.freeIdx ∧ (promote cs s).pending = s.pending := by
  induction cs generalizing s with
  | nil => simp [promote]
  | cons c cs ih => unfold promote; split <;> simp [ih]

@[simp] theorem settleHand_frame (s : State) :
    (settleHand s).powered = s.powered ∧ (settleHand s).nrstHigh = s.nrstHigh ∧ (settleHand s).wpHigh = s.wpHigh ∧
    (settleHand s).lockenHigh = s.lockenHigh ∧ (settleHand s).unitAddr = s.unitAddr ∧ (settleHand s).seq = s.seq ∧
    (settleHand s).win = s.win ∧ (settleHand s).line = s.line ∧ (settleHand s).trig = s.trig ∧
    (settleHand s).cap = s.cap ∧ (settleHand s).rcd = s.rcd ∧ (settleHand s).sns = s.sns ∧
    (settleHand s).store = s.store ∧ (settleHand s).load = s.load ∧ (settleHand s).snsTx = s.snsTx ∧
    (settleHand s).freeIdx = s.freeIdx ∧ (settleHand s).pending = s.pending := by
  unfold settleHand; split <;> simp

@[simp] theorem releaseHand_frame (s : State) :
    (releaseHand s).powered = s.powered ∧ (releaseHand s).nrstHigh = s.nrstHigh ∧ (releaseHand s).wpHigh = s.wpHigh ∧
    (releaseHand s).lockenHigh = s.lockenHigh ∧ (releaseHand s).unitAddr = s.unitAddr ∧ (releaseHand s).seq = s.seq ∧
    (releaseHand s).win = s.win ∧ (releaseHand s).line = s.line ∧ (releaseHand s).trig = s.trig ∧
    (releaseHand s).cap = s.cap ∧ (releaseHand s).rcd = s.rcd ∧ (releaseHand s).sns = s.sns ∧
    (releaseHand s).store = s.store ∧ (releaseHand s).load = s.load ∧ (releaseHand s).snsTx = s.snsTx ∧
    (releaseHand s).freeIdx = s.freeIdx ∧ (releaseHand s).pending = s.pending := by
  simp [releaseHand]

@[simp] theorem dropMany_frame (n : Nat) (s : State) :
    (dropMany n s).powered = s.powered ∧ (dropMany n s).nrstHigh = s.nrstHigh ∧ (dropMany n s).wpHigh = s.wpHigh ∧
    (dropMany n s).lockenHigh = s.lockenHigh ∧ (dropMany n s).unitAddr = s.unitAddr ∧ (dropMany n s).seq = s.seq ∧
    (dropMany n s).win = s.win ∧ (dropMany n s).line = s.line ∧ (dropMany n s).trig = s.trig ∧
    (dropMany n s).cap = s.cap ∧ (dropMany n s).rcd = s.rcd ∧ (dropMany n s).sns = s.sns ∧
    (dropMany n s).ctl = s.ctl ∧ (dropMany n s).store = s.store ∧ (dropMany n s).load = s.load ∧
    (dropMany n s).dec = s.dec ∧ (dropMany n s).snsTx = s.snsTx ∧ (dropMany n s).freeIdx = s.freeIdx ∧
    (dropMany n s).pending = s.pending := by
  induction n generalizing s with
  | zero => simp [dropMany]
  | succ n ih => simp [dropMany, ih]

@[simp] theorem holdRequest_frame (s : State) :
    (holdRequest s).powered = s.powered ∧ (holdRequest s).nrstHigh = s.nrstHigh ∧ (holdRequest s).wpHigh = s.wpHigh ∧
    (holdRequest s).lockenHigh = s.lockenHigh ∧ (holdRequest s).unitAddr = s.unitAddr ∧ (holdRequest s).win = s.win ∧
    (holdRequest s).trig = s.trig ∧ (holdRequest s).cap = s.cap ∧ (holdRequest s).rcd = s.rcd ∧
    (holdRequest s).sns = s.sns ∧ (holdRequest s).ctl = s.ctl ∧ (holdRequest s).store = s.store ∧
    (holdRequest s).load = s.load ∧ (holdRequest s).dec = s.dec ∧ (holdRequest s).snsTx = s.snsTx ∧
    (holdRequest s).freeIdx = s.freeIdx ∧ (holdRequest s).pending = s.pending := by
  unfold holdRequest; split <;> simp

@[simp] theorem triggerWork_frame (depth : Nat) (adv : Bool) (net : List Int) (cs : List Classified) (s : State) :
    ((triggerWork depth adv net cs s).1).powered = s.powered ∧
    ((triggerWork depth adv net cs s).1).nrstHigh = s.nrstHigh ∧
    ((triggerWork depth adv net cs s).1).wpHigh = s.wpHigh ∧
    ((triggerWork depth adv net cs s).1).lockenHigh = s.lockenHigh ∧
    ((triggerWork depth adv net cs s).1).unitAddr = s.unitAddr ∧ ((triggerWork depth adv net cs s).1).win = s.win ∧
    ((triggerWork depth adv net cs s).1).cap = s.cap ∧ ((triggerWork depth adv net cs s).1).rcd = s.rcd ∧
    ((triggerWork depth adv net cs s).1).sns = s.sns ∧ ((triggerWork depth adv net cs s).1).ctl = s.ctl ∧
    ((triggerWork depth adv net cs s).1).store = s.store ∧ ((triggerWork depth adv net cs s).1).load = s.load ∧
    ((triggerWork depth adv net cs s).1).dec = s.dec ∧ ((triggerWork depth adv net cs s).1).snsTx = s.snsTx ∧
    ((triggerWork depth adv net cs s).1).freeIdx = s.freeIdx ∧
    ((triggerWork depth adv net cs s).1).pending = s.pending := by
  simp only [triggerWork]; split <;> simp

@[simp] theorem freeze_frame (s : State) :
    (freeze s).powered = s.powered ∧ (freeze s).nrstHigh = s.nrstHigh ∧ (freeze s).wpHigh = s.wpHigh ∧
    (freeze s).lockenHigh = s.lockenHigh ∧ (freeze s).unitAddr = s.unitAddr ∧ (freeze s).seq = s.seq ∧
    (freeze s).win = s.win ∧ (freeze s).line = s.line ∧ (freeze s).trig = s.trig ∧ (freeze s).rcd = s.rcd ∧
    (freeze s).sns = s.sns ∧ (freeze s).ctl = s.ctl ∧ (freeze s).store = s.store ∧ (freeze s).load = s.load ∧
    (freeze s).dec = s.dec ∧ (freeze s).snsTx = s.snsTx ∧ (freeze s).freeIdx = s.freeIdx ∧
    (freeze s).pending = s.pending := by
  simp [freeze]

@[simp] theorem recordSample_frame (e : HistEntry) (s : State) :
    (recordSample e s).powered = s.powered ∧ (recordSample e s).nrstHigh = s.nrstHigh ∧
    (recordSample e s).wpHigh = s.wpHigh ∧ (recordSample e s).lockenHigh = s.lockenHigh ∧
    (recordSample e s).unitAddr = s.unitAddr ∧ (recordSample e s).seq = s.seq ∧ (recordSample e s).win = s.win ∧
    (recordSample e s).line = s.line ∧ (recordSample e s).trig = s.trig ∧ (recordSample e s).rcd = s.rcd ∧
    (recordSample e s).sns = s.sns ∧ (recordSample e s).ctl = s.ctl ∧ (recordSample e s).store = s.store ∧
    (recordSample e s).load = s.load ∧ (recordSample e s).dec = s.dec ∧ (recordSample e s).snsTx = s.snsTx ∧
    (recordSample e s).freeIdx = s.freeIdx ∧ (recordSample e s).pending = s.pending := by
  unfold recordSample; split
  · simp
  · simp only; split <;> simp
  · simp

@[simp] theorem captureRequest_frame (s : State) :
    (captureRequest s).powered = s.powered ∧ (captureRequest s).nrstHigh = s.nrstHigh ∧
    (captureRequest s).wpHigh = s.wpHigh ∧ (captureRequest s).lockenHigh = s.lockenHigh ∧
    (captureRequest s).unitAddr = s.unitAddr ∧ (captureRequest s).seq = s.seq ∧ (captureRequest s).win = s.win ∧
    (captureRequest s).line = s.line ∧ (captureRequest s).trig = s.trig ∧ (captureRequest s).rcd = s.rcd ∧
    (captureRequest s).sns = s.sns ∧ (captureRequest s).ctl = s.ctl ∧ (captureRequest s).store = s.store ∧
    (captureRequest s).load = s.load ∧ (captureRequest s).dec = s.dec ∧ (captureRequest s).snsTx = s.snsTx ∧
    (captureRequest s).freeIdx = s.freeIdx ∧ (captureRequest s).pending = s.pending := by
  unfold captureRequest; split
  · simp only; split <;> simp
  all_goals simp

@[simp] theorem strokeDone_frame (depth : Nat) (s : State) :
    (strokeDone depth s).powered = s.powered ∧ (strokeDone depth s).nrstHigh = s.nrstHigh ∧
    (strokeDone depth s).wpHigh = s.wpHigh ∧ (strokeDone depth s).lockenHigh = s.lockenHigh ∧
    (strokeDone depth s).unitAddr = s.unitAddr ∧ (strokeDone depth s).win = s.win ∧
    (strokeDone depth s).line = s.line ∧ (strokeDone depth s).trig = s.trig ∧ (strokeDone depth s).cap = s.cap ∧
    (strokeDone depth s).sns = s.sns ∧ (strokeDone depth s).ctl = s.ctl ∧ (strokeDone depth s).store = s.store ∧
    (strokeDone depth s).load = s.load ∧ (strokeDone depth s).dec = s.dec ∧ (strokeDone depth s).snsTx = s.snsTx ∧
    (strokeDone depth s).freeIdx = s.freeIdx ∧ (strokeDone depth s).pending = s.pending := by
  simp [strokeDone]

@[simp] theorem seatTest_frame (x : Sample) (s : State) :
    (seatTest x s).powered = s.powered ∧ (seatTest x s).nrstHigh = s.nrstHigh ∧ (seatTest x s).wpHigh = s.wpHigh ∧
    (seatTest x s).lockenHigh = s.lockenHigh ∧ (seatTest x s).unitAddr = s.unitAddr ∧ (seatTest x s).trig = s.trig ∧
    (seatTest x s).cap = s.cap ∧ (seatTest x s).sns = s.sns ∧ (seatTest x s).ctl = s.ctl ∧
    (seatTest x s).store = s.store ∧ (seatTest x s).load = s.load ∧ (seatTest x s).dec = s.dec ∧
    (seatTest x s).snsTx = s.snsTx ∧ (seatTest x s).freeIdx = s.freeIdx ∧ (seatTest x s).pending = s.pending := by
  simp only [seatTest]; split
  · split <;> simp
  · split <;> simp

@[simp] theorem engageWork_frame (x : Sample) (gap : Nat) (s : State) :
    ((engageWork x gap s).1).powered = s.powered ∧ ((engageWork x gap s).1).nrstHigh = s.nrstHigh ∧
    ((engageWork x gap s).1).wpHigh = s.wpHigh ∧ ((engageWork x gap s).1).lockenHigh = s.lockenHigh ∧
    ((engageWork x gap s).1).unitAddr = s.unitAddr ∧ ((engageWork x gap s).1).trig = s.trig ∧
    ((engageWork x gap s).1).cap = s.cap ∧ ((engageWork x gap s).1).sns = s.sns ∧
    ((engageWork x gap s).1).ctl = s.ctl ∧ ((engageWork x gap s).1).store = s.store ∧
    ((engageWork x gap s).1).load = s.load ∧ ((engageWork x gap s).1).dec = s.dec ∧
    ((engageWork x gap s).1).snsTx = s.snsTx ∧ ((engageWork x gap s).1).freeIdx = s.freeIdx ∧
    ((engageWork x gap s).1).pending = s.pending := by
  simp only [engageWork]; split <;> simp

@[simp] theorem approachWork_frame (x : Sample) (gap : Nat) (s : State) :
    ((approachWork x gap s).1).powered = s.powered ∧ ((approachWork x gap s).1).nrstHigh = s.nrstHigh ∧
    ((approachWork x gap s).1).wpHigh = s.wpHigh ∧ ((approachWork x gap s).1).lockenHigh = s.lockenHigh ∧
    ((approachWork x gap s).1).unitAddr = s.unitAddr ∧ ((approachWork x gap s).1).trig = s.trig ∧
    ((approachWork x gap s).1).cap = s.cap ∧ ((approachWork x gap s).1).sns = s.sns ∧
    ((approachWork x gap s).1).ctl = s.ctl ∧ ((approachWork x gap s).1).store = s.store ∧
    ((approachWork x gap s).1).load = s.load ∧ ((approachWork x gap s).1).dec = s.dec ∧
    ((approachWork x gap s).1).snsTx = s.snsTx ∧ ((approachWork x gap s).1).freeIdx = s.freeIdx ∧
    ((approachWork x gap s).1).pending = s.pending := by
  unfold approachWork; split
  · simp
  · split <;> simp

@[simp] theorem phaseWork_frame (x : Sample) (gap : Nat) (s : State) :
    ((phaseWork x gap s).1).powered = s.powered ∧ ((phaseWork x gap s).1).nrstHigh = s.nrstHigh ∧
    ((phaseWork x gap s).1).wpHigh = s.wpHigh ∧ ((phaseWork x gap s).1).lockenHigh = s.lockenHigh ∧
    ((phaseWork x gap s).1).unitAddr = s.unitAddr ∧ ((phaseWork x gap s).1).trig = s.trig ∧
    ((phaseWork x gap s).1).cap = s.cap ∧ ((phaseWork x gap s).1).sns = s.sns ∧ ((phaseWork x gap s).1).ctl = s.ctl ∧
    ((phaseWork x gap s).1).store = s.store ∧ ((phaseWork x gap s).1).load = s.load ∧
    ((phaseWork x gap s).1).dec = s.dec ∧ ((phaseWork x gap s).1).snsTx = s.snsTx ∧
    ((phaseWork x gap s).1).freeIdx = s.freeIdx ∧ ((phaseWork x gap s).1).pending = s.pending := by
  unfold phaseWork; split <;> simp

@[simp] theorem handToTriggers_frame (x : Sample) (adv : Bool) (cs : List Classified) (s : State) :
    ((handToTriggers x adv cs s).1).powered = s.powered ∧ ((handToTriggers x adv cs s).1).nrstHigh = s.nrstHigh ∧
    ((handToTriggers x adv cs s).1).wpHigh = s.wpHigh ∧ ((handToTriggers x adv cs s).1).lockenHigh = s.lockenHigh ∧
    ((handToTriggers x adv cs s).1).unitAddr = s.unitAddr ∧ ((handToTriggers x adv cs s).1).win = s.win ∧
    ((handToTriggers x adv cs s).1).cap = s.cap ∧ ((handToTriggers x adv cs s).1).rcd = s.rcd ∧
    ((handToTriggers x adv cs s).1).sns = s.sns ∧ ((handToTriggers x adv cs s).1).ctl = s.ctl ∧
    ((handToTriggers x adv cs s).1).store = s.store ∧ ((handToTriggers x adv cs s).1).load = s.load ∧
    ((handToTriggers x adv cs s).1).dec = s.dec ∧ ((handToTriggers x adv cs s).1).snsTx = s.snsTx ∧
    ((handToTriggers x adv cs s).1).freeIdx = s.freeIdx ∧ ((handToTriggers x adv cs s).1).pending = s.pending := by
  unfold handToTriggers; split <;> simp

@[simp] theorem moveSample_frame (x : Sample) (gap : Nat) (s : State) :
    ((moveSample x gap s).1).powered = s.powered ∧ ((moveSample x gap s).1).nrstHigh = s.nrstHigh ∧
    ((moveSample x gap s).1).wpHigh = s.wpHigh ∧ ((moveSample x gap s).1).lockenHigh = s.lockenHigh ∧
    ((moveSample x gap s).1).unitAddr = s.unitAddr ∧ ((moveSample x gap s).1).cap = s.cap ∧
    ((moveSample x gap s).1).sns = s.sns ∧ ((moveSample x gap s).1).ctl = s.ctl ∧
    ((moveSample x gap s).1).store = s.store ∧ ((moveSample x gap s).1).load = s.load ∧
    ((moveSample x gap s).1).dec = s.dec ∧ ((moveSample x gap s).1).snsTx = s.snsTx ∧
    ((moveSample x gap s).1).freeIdx = s.freeIdx ∧ ((moveSample x gap s).1).pending = s.pending := by
  unfold moveSample; split <;> simp

@[simp] theorem strokeSample_frame (x : Sample) (gap : Nat) (s : State) :
    ((strokeSample x gap s).1).powered = s.powered ∧ ((strokeSample x gap s).1).nrstHigh = s.nrstHigh ∧
    ((strokeSample x gap s).1).wpHigh = s.wpHigh ∧ ((strokeSample x gap s).1).lockenHigh = s.lockenHigh ∧
    ((strokeSample x gap s).1).unitAddr = s.unitAddr ∧ ((strokeSample x gap s).1).cap = s.cap ∧
    ((strokeSample x gap s).1).sns = s.sns ∧ ((strokeSample x gap s).1).ctl = s.ctl ∧
    ((strokeSample x gap s).1).store = s.store ∧ ((strokeSample x gap s).1).load = s.load ∧
    ((strokeSample x gap s).1).dec = s.dec ∧ ((strokeSample x gap s).1).snsTx = s.snsTx ∧
    ((strokeSample x gap s).1).freeIdx = s.freeIdx ∧ ((strokeSample x gap s).1).pending = s.pending := by
  simp only [strokeSample]; split
  · simp
  · split <;> simp

@[simp] theorem retractSample_frame (x : Sample) (s : State) :
    (retractSample x s).powered = s.powered ∧ (retractSample x s).nrstHigh = s.nrstHigh ∧
    (retractSample x s).wpHigh = s.wpHigh ∧ (retractSample x s).lockenHigh = s.lockenHigh ∧
    (retractSample x s).unitAddr = s.unitAddr ∧ (retractSample x s).trig = s.trig ∧ (retractSample x s).cap = s.cap ∧
    (retractSample x s).rcd = s.rcd ∧ (retractSample x s).evt = s.evt ∧ (retractSample x s).sns = s.sns ∧
    (retractSample x s).ctl = s.ctl ∧ (retractSample x s).tx = s.tx ∧ (retractSample x s).store = s.store ∧
    (retractSample x s).dec = s.dec ∧ (retractSample x s).snsTx = s.snsTx ∧ (retractSample x s).freeIdx = s.freeIdx ∧
    (retractSample x s).pending = s.pending := by
  unfold retractSample; split <;> simp

@[simp] theorem sequence_frame (x : Sample) (gap : Nat) (s : State) :
    ((sequence x gap s).1).powered = s.powered ∧ ((sequence x gap s).1).nrstHigh = s.nrstHigh ∧
    ((sequence x gap s).1).wpHigh = s.wpHigh ∧ ((sequence x gap s).1).lockenHigh = s.lockenHigh ∧
    ((sequence x gap s).1).unitAddr = s.unitAddr ∧ ((sequence x gap s).1).cap = s.cap ∧
    ((sequence x gap s).1).sns = s.sns ∧ ((sequence x gap s).1).ctl = s.ctl ∧
    ((sequence x gap s).1).store = s.store ∧ ((sequence x gap s).1).dec = s.dec ∧
    ((sequence x gap s).1).snsTx = s.snsTx ∧ ((sequence x gap s).1).freeIdx = s.freeIdx ∧
    ((sequence x gap s).1).pending = s.pending := by
  unfold sequence; split <;> simp

@[simp] theorem handleSample_frame (x : Sample) (gap : Nat) (s : State) :
    ((handleSample x gap s).1).powered = s.powered ∧ ((handleSample x gap s).1).nrstHigh = s.nrstHigh ∧
    ((handleSample x gap s).1).wpHigh = s.wpHigh ∧ ((handleSample x gap s).1).lockenHigh = s.lockenHigh ∧
    ((handleSample x gap s).1).unitAddr = s.unitAddr ∧ ((handleSample x gap s).1).ctl = s.ctl ∧
    ((handleSample x gap s).1).store = s.store ∧ ((handleSample x gap s).1).dec = s.dec ∧
    ((handleSample x gap s).1).snsTx = s.snsTx ∧ ((handleSample x gap s).1).freeIdx = s.freeIdx ∧
    ((handleSample x gap s).1).pending = s.pending := by
  simp only [handleSample]; split <;> simp

@[simp] theorem staleSample_frame (body : List Byte) (check : Word16) (s : State) :
    (staleSample body check s).powered = s.powered ∧ (staleSample body check s).nrstHigh = s.nrstHigh ∧
    (staleSample body check s).wpHigh = s.wpHigh ∧ (staleSample body check s).lockenHigh = s.lockenHigh ∧
    (staleSample body check s).unitAddr = s.unitAddr ∧ (staleSample body check s).seq = s.seq ∧
    (staleSample body check s).win = s.win ∧ (staleSample body check s).line = s.line ∧
    (staleSample body check s).trig = s.trig ∧ (staleSample body check s).cap = s.cap ∧
    (staleSample body check s).rcd = s.rcd ∧ (staleSample body check s).ctl = s.ctl ∧
    (staleSample body check s).store = s.store ∧ (staleSample body check s).load = s.load ∧
    (staleSample body check s).dec = s.dec ∧ (staleSample body check s).snsTx = s.snsTx ∧
    (staleSample body check s).freeIdx = s.freeIdx ∧ (staleSample body check s).pending = s.pending := by
  simp [staleSample]

@[simp] theorem receiveSample_frame (body : List Byte) (check : Word16) (s : State) :
    (receiveSample body check s).powered = s.powered ∧ (receiveSample body check s).nrstHigh = s.nrstHigh ∧
    (receiveSample body check s).wpHigh = s.wpHigh ∧ (receiveSample body check s).lockenHigh = s.lockenHigh ∧
    (receiveSample body check s).unitAddr = s.unitAddr ∧ (receiveSample body check s).ctl = s.ctl ∧
    (receiveSample body check s).store = s.store ∧ (receiveSample body check s).dec = s.dec ∧
    (receiveSample body check s).snsTx = s.snsTx ∧ (receiveSample body check s).freeIdx = s.freeIdx ∧
    (receiveSample body check s).pending = s.pending := by
  unfold receiveSample; split
  · split
    · simp
    · split <;> simp
  · simp

@[simp] theorem receiveForward_frame (f : Frame) (s : State) :
    (receiveForward f s).powered = s.powered ∧ (receiveForward f s).nrstHigh = s.nrstHigh ∧
    (receiveForward f s).wpHigh = s.wpHigh ∧ (receiveForward f s).lockenHigh = s.lockenHigh ∧
    (receiveForward f s).unitAddr = s.unitAddr ∧ (receiveForward f s).ctl = s.ctl ∧
    (receiveForward f s).store = s.store ∧ (receiveForward f s).dec = s.dec ∧ (receiveForward f s).snsTx = s.snsTx ∧
    (receiveForward f s).freeIdx = s.freeIdx ∧ (receiveForward f s).pending = s.pending := by
  unfold receiveForward; split
  · simp
  · split
    · split <;> simp
    · simp

@[simp] theorem consume_frame (c : Command) (s : State) :
    (consume c s).powered = s.powered ∧ (consume c s).nrstHigh = s.nrstHigh ∧ (consume c s).wpHigh = s.wpHigh ∧
    (consume c s).lockenHigh = s.lockenHigh ∧ (consume c s).unitAddr = s.unitAddr ∧ (consume c s).seq = s.seq ∧
    (consume c s).win = s.win ∧ (consume c s).line = s.line ∧ (consume c s).trig = s.trig ∧
    (consume c s).cap = s.cap ∧ (consume c s).rcd = s.rcd ∧ (consume c s).sns = s.sns ∧
    (consume c s).store = s.store ∧ (consume c s).load = s.load ∧ (consume c s).snsTx = s.snsTx ∧
    (consume c s).freeIdx = s.freeIdx ∧ (consume c s).pending = s.pending := by
  unfold consume; split <;> simp

@[simp] theorem routeCommand_frame (f : Frame) (s : State) :
    (routeCommand f s).powered = s.powered ∧ (routeCommand f s).nrstHigh = s.nrstHigh ∧
    (routeCommand f s).wpHigh = s.wpHigh ∧ (routeCommand f s).lockenHigh = s.lockenHigh ∧
    (routeCommand f s).unitAddr = s.unitAddr ∧ (routeCommand f s).seq = s.seq ∧ (routeCommand f s).win = s.win ∧
    (routeCommand f s).line = s.line ∧ (routeCommand f s).trig = s.trig ∧ (routeCommand f s).cap = s.cap ∧
    (routeCommand f s).rcd = s.rcd ∧ (routeCommand f s).sns = s.sns ∧ (routeCommand f s).store = s.store ∧
    (routeCommand f s).load = s.load ∧ (routeCommand f s).freeIdx = s.freeIdx ∧
    (routeCommand f s).pending = s.pending := by
  simp only [routeCommand]; split
  · simp
  · split <;> simp

@[simp] theorem receiveReturn_frame (f : Frame) (s : State) :
    (receiveReturn f s).powered = s.powered ∧ (receiveReturn f s).nrstHigh = s.nrstHigh ∧
    (receiveReturn f s).wpHigh = s.wpHigh ∧ (receiveReturn f s).lockenHigh = s.lockenHigh ∧
    (receiveReturn f s).unitAddr = s.unitAddr ∧ (receiveReturn f s).seq = s.seq ∧ (receiveReturn f s).win = s.win ∧
    (receiveReturn f s).line = s.line ∧ (receiveReturn f s).trig = s.trig ∧ (receiveReturn f s).cap = s.cap ∧
    (receiveReturn f s).rcd = s.rcd ∧ (receiveReturn f s).sns = s.sns ∧ (receiveReturn f s).store = s.store ∧
    (receiveReturn f s).load = s.load ∧ (receiveReturn f s).freeIdx = s.freeIdx ∧
    (receiveReturn f s).pending = s.pending := by
  unfold receiveReturn; split
  · split
    · simp
    · split <;> simp
  · simp

@[simp] theorem beginSend_frame (s : State) :
    (beginSend s).powered = s.powered ∧ (beginSend s).nrstHigh = s.nrstHigh ∧ (beginSend s).wpHigh = s.wpHigh ∧
    (beginSend s).lockenHigh = s.lockenHigh ∧ (beginSend s).unitAddr = s.unitAddr ∧ (beginSend s).seq = s.seq ∧
    (beginSend s).win = s.win ∧ (beginSend s).line = s.line ∧ (beginSend s).trig = s.trig ∧
    (beginSend s).cap = s.cap ∧ (beginSend s).rcd = s.rcd ∧ (beginSend s).evt = s.evt ∧ (beginSend s).sns = s.sns ∧
    (beginSend s).ctl = s.ctl ∧ (beginSend s).store = s.store ∧ (beginSend s).load = s.load ∧
    (beginSend s).dec = s.dec ∧ (beginSend s).snsTx = s.snsTx ∧ (beginSend s).freeIdx = s.freeIdx ∧
    (beginSend s).pending = s.pending := by
  unfold beginSend; split
  · split
    · simp
    · split <;> simp
  · simp

@[simp] theorem endSend_frame (s : State) :
    (endSend s).powered = s.powered ∧ (endSend s).nrstHigh = s.nrstHigh ∧ (endSend s).wpHigh = s.wpHigh ∧
    (endSend s).lockenHigh = s.lockenHigh ∧ (endSend s).unitAddr = s.unitAddr ∧ (endSend s).seq = s.seq ∧
    (endSend s).win = s.win ∧ (endSend s).line = s.line ∧ (endSend s).trig = s.trig ∧ (endSend s).cap = s.cap ∧
    (endSend s).rcd = s.rcd ∧ (endSend s).evt = s.evt ∧ (endSend s).sns = s.sns ∧ (endSend s).ctl = s.ctl ∧
    (endSend s).store = s.store ∧ (endSend s).load = s.load ∧ (endSend s).dec = s.dec ∧ (endSend s).snsTx = s.snsTx ∧
    (endSend s).freeIdx = s.freeIdx ∧ (endSend s).pending = s.pending := by
  unfold endSend; split
  · simp
  · split <;> simp

@[simp] theorem movePort_frame (p : Port) (was becomes : PortState) (s : State) :
    (movePort p was becomes s).powered = s.powered ∧ (movePort p was becomes s).nrstHigh = s.nrstHigh ∧
    (movePort p was becomes s).wpHigh = s.wpHigh ∧ (movePort p was becomes s).lockenHigh = s.lockenHigh ∧
    (movePort p was becomes s).unitAddr = s.unitAddr ∧ (movePort p was becomes s).seq = s.seq ∧
    (movePort p was becomes s).win = s.win ∧ (movePort p was becomes s).line = s.line ∧
    (movePort p was becomes s).trig = s.trig ∧ (movePort p was becomes s).cap = s.cap ∧
    (movePort p was becomes s).rcd = s.rcd ∧ (movePort p was becomes s).evt = s.evt ∧
    (movePort p was becomes s).tx = s.tx ∧ (movePort p was becomes s).store = s.store ∧
    (movePort p was becomes s).load = s.load ∧ (movePort p was becomes s).dec = s.dec ∧
    (movePort p was becomes s).snsTx = s.snsTx ∧ (movePort p was becomes s).freeIdx = s.freeIdx ∧
    (movePort p was becomes s).pending = s.pending := by
  unfold movePort; split <;> simp

@[simp] theorem portUp_frame (p : Port) (s : State) :
    (portUp p s).powered = s.powered ∧ (portUp p s).nrstHigh = s.nrstHigh ∧ (portUp p s).wpHigh = s.wpHigh ∧
    (portUp p s).lockenHigh = s.lockenHigh ∧ (portUp p s).unitAddr = s.unitAddr ∧ (portUp p s).seq = s.seq ∧
    (portUp p s).win = s.win ∧ (portUp p s).line = s.line ∧ (portUp p s).trig = s.trig ∧ (portUp p s).cap = s.cap ∧
    (portUp p s).rcd = s.rcd ∧ (portUp p s).store = s.store ∧ (portUp p s).load = s.load ∧ (portUp p s).dec = s.dec ∧
    (portUp p s).snsTx = s.snsTx ∧ (portUp p s).freeIdx = s.freeIdx ∧ (portUp p s).pending = s.pending := by
  cases p <;> simp [portUp]

@[simp] theorem sensorDown_frame (s : State) :
    (sensorDown s).powered = s.powered ∧ (sensorDown s).nrstHigh = s.nrstHigh ∧ (sensorDown s).wpHigh = s.wpHigh ∧
    (sensorDown s).lockenHigh = s.lockenHigh ∧ (sensorDown s).unitAddr = s.unitAddr ∧ (sensorDown s).trig = s.trig ∧
    (sensorDown s).cap = s.cap ∧ (sensorDown s).sns = s.sns ∧ (sensorDown s).ctl = s.ctl ∧
    (sensorDown s).store = s.store ∧ (sensorDown s).dec = s.dec ∧ (sensorDown s).snsTx = s.snsTx ∧
    (sensorDown s).freeIdx = s.freeIdx ∧ (sensorDown s).pending = s.pending := by
  unfold sensorDown; split <;> simp

@[simp] theorem loseSensor_frame (arriving passing : Bool) (s : State) :
    (loseSensor arriving passing s).powered = s.powered ∧ (loseSensor arriving passing s).nrstHigh = s.nrstHigh ∧
    (loseSensor arriving passing s).wpHigh = s.wpHigh ∧ (loseSensor arriving passing s).lockenHigh = s.lockenHigh ∧
    (loseSensor arriving passing s).unitAddr = s.unitAddr ∧ (loseSensor arriving passing s).trig = s.trig ∧
    (loseSensor arriving passing s).cap = s.cap ∧ (loseSensor arriving passing s).ctl = s.ctl ∧
    (loseSensor arriving passing s).store = s.store ∧ (loseSensor arriving passing s).dec = s.dec ∧
    (loseSensor arriving passing s).freeIdx = s.freeIdx ∧ (loseSensor arriving passing s).pending = s.pending := by
  simp only [loseSensor]; split <;> simp

@[simp] theorem loseController_frame (arriving : Bool) (s : State) :
    (loseController arriving s).powered = s.powered ∧ (loseController arriving s).nrstHigh = s.nrstHigh ∧
    (loseController arriving s).wpHigh = s.wpHigh ∧ (loseController arriving s).lockenHigh = s.lockenHigh ∧
    (loseController arriving s).unitAddr = s.unitAddr ∧ (loseController arriving s).seq = s.seq ∧
    (loseController arriving s).win = s.win ∧ (loseController arriving s).line = s.line ∧
    (loseController arriving s).trig = s.trig ∧ (loseController arriving s).cap = s.cap ∧
    (loseController arriving s).rcd = s.rcd ∧ (loseController arriving s).sns = s.sns ∧
    (loseController arriving s).store = s.store ∧ (loseController arriving s).load = s.load ∧
    (loseController arriving s).dec = s.dec ∧ (loseController arriving s).snsTx = s.snsTx ∧
    (loseController arriving s).freeIdx = s.freeIdx ∧ (loseController arriving s).pending = s.pending := by
  simp only [loseController]; split <;> simp

@[simp] theorem expireTimer_frame (s : State) :
    (expireTimer s).powered = s.powered ∧ (expireTimer s).nrstHigh = s.nrstHigh ∧ (expireTimer s).wpHigh = s.wpHigh ∧
    (expireTimer s).lockenHigh = s.lockenHigh ∧ (expireTimer s).unitAddr = s.unitAddr ∧
    (expireTimer s).trig = s.trig ∧ (expireTimer s).cap = s.cap ∧ (expireTimer s).sns = s.sns ∧
    (expireTimer s).ctl = s.ctl ∧ (expireTimer s).store = s.store ∧ (expireTimer s).load = s.load ∧
    (expireTimer s).dec = s.dec ∧ (expireTimer s).snsTx = s.snsTx ∧ (expireTimer s).freeIdx = s.freeIdx ∧
    (expireTimer s).pending = s.pending := by
  unfold expireTimer; split <;> simp

@[simp] theorem stopWrite_frame (s : State) :
    (stopWrite s).powered = s.powered ∧ (stopWrite s).nrstHigh = s.nrstHigh ∧ (stopWrite s).wpHigh = s.wpHigh ∧
    (stopWrite s).lockenHigh = s.lockenHigh ∧ (stopWrite s).unitAddr = s.unitAddr ∧ (stopWrite s).seq = s.seq ∧
    (stopWrite s).win = s.win ∧ (stopWrite s).line = s.line ∧ (stopWrite s).trig = s.trig ∧
    (stopWrite s).cap = s.cap ∧ (stopWrite s).rcd = s.rcd ∧ (stopWrite s).sns = s.sns ∧ (stopWrite s).ctl = s.ctl ∧
    (stopWrite s).load = s.load ∧ (stopWrite s).dec = s.dec ∧ (stopWrite s).snsTx = s.snsTx ∧
    (stopWrite s).freeIdx = s.freeIdx ∧ (stopWrite s).pending = s.pending := by
  unfold stopWrite; split <;> simp

@[simp] theorem lockOnFall_frame (s : State) :
    (lockOnFall s).powered = s.powered ∧ (lockOnFall s).nrstHigh = s.nrstHigh ∧ (lockOnFall s).wpHigh = s.wpHigh ∧
    (lockOnFall s).lockenHigh = s.lockenHigh ∧ (lockOnFall s).unitAddr = s.unitAddr ∧ (lockOnFall s).seq = s.seq ∧
    (lockOnFall s).win = s.win ∧ (lockOnFall s).line = s.line ∧ (lockOnFall s).trig = s.trig ∧
    (lockOnFall s).cap = s.cap ∧ (lockOnFall s).rcd = s.rcd ∧ (lockOnFall s).evt = s.evt ∧
    (lockOnFall s).sns = s.sns ∧ (lockOnFall s).ctl = s.ctl ∧ (lockOnFall s).tx = s.tx ∧
    (lockOnFall s).load = s.load ∧ (lockOnFall s).dec = s.dec ∧ (lockOnFall s).snsTx = s.snsTx ∧
    (lockOnFall s).freeIdx = s.freeIdx ∧ (lockOnFall s).pending = s.pending := by
  unfold lockOnFall; split <;> simp

@[simp] theorem finishCommit_frame (slot : Nat) (took : Bool) (s : State) :
    (finishCommit slot took s).powered = s.powered ∧ (finishCommit slot took s).nrstHigh = s.nrstHigh ∧
    (finishCommit slot took s).wpHigh = s.wpHigh ∧ (finishCommit slot took s).lockenHigh = s.lockenHigh ∧
    (finishCommit slot took s).unitAddr = s.unitAddr ∧ (finishCommit slot took s).seq = s.seq ∧
    (finishCommit slot took s).win = s.win ∧ (finishCommit slot took s).line = s.line ∧
    (finishCommit slot took s).trig = s.trig ∧ (finishCommit slot took s).cap = s.cap ∧
    (finishCommit slot took s).rcd = s.rcd ∧ (finishCommit slot took s).sns = s.sns ∧
    (finishCommit slot took s).ctl = s.ctl ∧ (finishCommit slot took s).load = s.load ∧
    (finishCommit slot took s).dec = s.dec ∧ (finishCommit slot took s).snsTx = s.snsTx ∧
    (finishCommit slot took s).freeIdx = s.freeIdx ∧ (finishCommit slot took s).pending = s.pending := by
  simp only [finishCommit]; split <;> simp

@[simp] theorem finishErase_frame (slot : Nat) (took : Bool) (s : State) :
    (finishErase slot took s).powered = s.powered ∧ (finishErase slot took s).nrstHigh = s.nrstHigh ∧
    (finishErase slot took s).wpHigh = s.wpHigh ∧ (finishErase slot took s).lockenHigh = s.lockenHigh ∧
    (finishErase slot took s).unitAddr = s.unitAddr ∧ (finishErase slot took s).seq = s.seq ∧
    (finishErase slot took s).win = s.win ∧ (finishErase slot took s).line = s.line ∧
    (finishErase slot took s).trig = s.trig ∧ (finishErase slot took s).cap = s.cap ∧
    (finishErase slot took s).rcd = s.rcd ∧ (finishErase slot took s).sns = s.sns ∧
    (finishErase slot took s).ctl = s.ctl ∧ (finishErase slot took s).load = s.load ∧
    (finishErase slot took s).dec = s.dec ∧ (finishErase slot took s).snsTx = s.snsTx ∧
    (finishErase slot took s).freeIdx = s.freeIdx ∧ (finishErase slot took s).pending = s.pending := by
  unfold finishErase; split <;> simp

@[simp] theorem finishProtect_frame (slot : Option Nat) (want back : BitVec 24) (s : State) :
    (finishProtect slot want back s).powered = s.powered ∧ (finishProtect slot want back s).nrstHigh = s.nrstHigh ∧
    (finishProtect slot want back s).wpHigh = s.wpHigh ∧ (finishProtect slot want back s).lockenHigh = s.lockenHigh ∧
    (finishProtect slot want back s).unitAddr = s.unitAddr ∧ (finishProtect slot want back s).seq = s.seq ∧
    (finishProtect slot want back s).win = s.win ∧ (finishProtect slot want back s).line = s.line ∧
    (finishProtect slot want back s).trig = s.trig ∧ (finishProtect slot want back s).cap = s.cap ∧
    (finishProtect slot want back s).rcd = s.rcd ∧ (finishProtect slot want back s).sns = s.sns ∧
    (finishProtect slot want back s).ctl = s.ctl ∧ (finishProtect slot want back s).load = s.load ∧
    (finishProtect slot want back s).dec = s.dec ∧ (finishProtect slot want back s).snsTx = s.snsTx ∧
    (finishProtect slot want back s).freeIdx = s.freeIdx ∧ (finishProtect slot want back s).pending = s.pending := by
  simp [finishProtect]

@[simp] theorem finishEditLoad_frame (slot : Nat) (intact : Bool) (s : State) :
    (finishEditLoad slot intact s).powered = s.powered ∧ (finishEditLoad slot intact s).nrstHigh = s.nrstHigh ∧
    (finishEditLoad slot intact s).wpHigh = s.wpHigh ∧ (finishEditLoad slot intact s).lockenHigh = s.lockenHigh ∧
    (finishEditLoad slot intact s).unitAddr = s.unitAddr ∧ (finishEditLoad slot intact s).seq = s.seq ∧
    (finishEditLoad slot intact s).win = s.win ∧ (finishEditLoad slot intact s).line = s.line ∧
    (finishEditLoad slot intact s).trig = s.trig ∧ (finishEditLoad slot intact s).cap = s.cap ∧
    (finishEditLoad slot intact s).rcd = s.rcd ∧ (finishEditLoad slot intact s).sns = s.sns ∧
    (finishEditLoad slot intact s).ctl = s.ctl ∧ (finishEditLoad slot intact s).load = s.load ∧
    (finishEditLoad slot intact s).dec = s.dec ∧ (finishEditLoad slot intact s).snsTx = s.snsTx ∧
    (finishEditLoad slot intact s).freeIdx = s.freeIdx ∧ (finishEditLoad slot intact s).pending = s.pending := by
  simp only [finishEditLoad]; split <;> simp

@[simp] theorem failActive_frame (slot : Nat) (c : SlotContent) (s : State) :
    (failActive slot c s).powered = s.powered ∧ (failActive slot c s).nrstHigh = s.nrstHigh ∧
    (failActive slot c s).wpHigh = s.wpHigh ∧ (failActive slot c s).lockenHigh = s.lockenHigh ∧
    (failActive slot c s).unitAddr = s.unitAddr ∧ (failActive slot c s).seq = s.seq ∧
    (failActive slot c s).win = s.win ∧ (failActive slot c s).line = s.line ∧ (failActive slot c s).trig = s.trig ∧
    (failActive slot c s).cap = s.cap ∧ (failActive slot c s).rcd = s.rcd ∧ (failActive slot c s).sns = s.sns ∧
    (failActive slot c s).ctl = s.ctl ∧ (failActive slot c s).dec = s.dec ∧ (failActive slot c s).snsTx = s.snsTx ∧
    (failActive slot c s).freeIdx = s.freeIdx ∧ (failActive slot c s).pending = s.pending := by
  simp [failActive]

@[simp] theorem finishActive_frame (slot : Nat) (intact : Bool) (s : State) :
    (finishActive slot intact s).powered = s.powered ∧ (finishActive slot intact s).nrstHigh = s.nrstHigh ∧
    (finishActive slot intact s).wpHigh = s.wpHigh ∧ (finishActive slot intact s).lockenHigh = s.lockenHigh ∧
    (finishActive slot intact s).unitAddr = s.unitAddr ∧ (finishActive slot intact s).seq = s.seq ∧
    (finishActive slot intact s).line = s.line ∧ (finishActive slot intact s).trig = s.trig ∧
    (finishActive slot intact s).cap = s.cap ∧ (finishActive slot intact s).rcd = s.rcd ∧
    (finishActive slot intact s).sns = s.sns ∧ (finishActive slot intact s).ctl = s.ctl ∧
    (finishActive slot intact s).dec = s.dec ∧ (finishActive slot intact s).snsTx = s.snsTx ∧
    (finishActive slot intact s).freeIdx = s.freeIdx ∧ (finishActive slot intact s).pending = s.pending := by
  simp only [finishActive]; split <;> simp

@[simp] theorem stageReady_frame (img : Image) (s : State) :
    (stageReady img s).powered = s.powered ∧ (stageReady img s).nrstHigh = s.nrstHigh ∧
    (stageReady img s).wpHigh = s.wpHigh ∧ (stageReady img s).lockenHigh = s.lockenHigh ∧
    (stageReady img s).unitAddr = s.unitAddr ∧ (stageReady img s).seq = s.seq ∧ (stageReady img s).line = s.line ∧
    (stageReady img s).trig = s.trig ∧ (stageReady img s).cap = s.cap ∧ (stageReady img s).rcd = s.rcd ∧
    (stageReady img s).evt = s.evt ∧ (stageReady img s).sns = s.sns ∧ (stageReady img s).ctl = s.ctl ∧
    (stageReady img s).tx = s.tx ∧ (stageReady img s).store = s.store ∧ (stageReady img s).dec = s.dec ∧
    (stageReady img s).snsTx = s.snsTx ∧ (stageReady img s).freeIdx = s.freeIdx ∧
    (stageReady img s).pending = s.pending := by
  unfold stageReady; split <;> simp

@[simp] theorem failStaged_frame (slot : Nat) (c : SlotContent) (s : State) :
    (failStaged slot c s).powered = s.powered ∧ (failStaged slot c s).nrstHigh = s.nrstHigh ∧
    (failStaged slot c s).wpHigh = s.wpHigh ∧ (failStaged slot c s).lockenHigh = s.lockenHigh ∧
    (failStaged slot c s).unitAddr = s.unitAddr ∧ (failStaged slot c s).seq = s.seq ∧
    (failStaged slot c s).win = s.win ∧ (failStaged slot c s).line = s.line ∧ (failStaged slot c s).trig = s.trig ∧
    (failStaged slot c s).cap = s.cap ∧ (failStaged slot c s).rcd = s.rcd ∧ (failStaged slot c s).sns = s.sns ∧
    (failStaged slot c s).ctl = s.ctl ∧ (failStaged slot c s).dec = s.dec ∧ (failStaged slot c s).snsTx = s.snsTx ∧
    (failStaged slot c s).freeIdx = s.freeIdx ∧ (failStaged slot c s).pending = s.pending := by
  simp [failStaged]

@[simp] theorem finishStaged_frame (slot : Nat) (intact : Bool) (s : State) :
    (finishStaged slot intact s).powered = s.powered ∧ (finishStaged slot intact s).nrstHigh = s.nrstHigh ∧
    (finishStaged slot intact s).wpHigh = s.wpHigh ∧ (finishStaged slot intact s).lockenHigh = s.lockenHigh ∧
    (finishStaged slot intact s).unitAddr = s.unitAddr ∧ (finishStaged slot intact s).seq = s.seq ∧
    (finishStaged slot intact s).line = s.line ∧ (finishStaged slot intact s).trig = s.trig ∧
    (finishStaged slot intact s).cap = s.cap ∧ (finishStaged slot intact s).rcd = s.rcd ∧
    (finishStaged slot intact s).sns = s.sns ∧ (finishStaged slot intact s).ctl = s.ctl ∧
    (finishStaged slot intact s).dec = s.dec ∧ (finishStaged slot intact s).snsTx = s.snsTx ∧
    (finishStaged slot intact s).freeIdx = s.freeIdx ∧ (finishStaged slot intact s).pending = s.pending := by
  simp only [finishStaged]; split <;> simp

@[simp] theorem beginWrite_frame (op : NvOp) (slot : Nat) (s : State) :
    (beginWrite op slot s).powered = s.powered ∧ (beginWrite op slot s).nrstHigh = s.nrstHigh ∧
    (beginWrite op slot s).wpHigh = s.wpHigh ∧ (beginWrite op slot s).lockenHigh = s.lockenHigh ∧
    (beginWrite op slot s).unitAddr = s.unitAddr ∧ (beginWrite op slot s).seq = s.seq ∧
    (beginWrite op slot s).win = s.win ∧ (beginWrite op slot s).line = s.line ∧
    (beginWrite op slot s).trig = s.trig ∧ (beginWrite op slot s).cap = s.cap ∧ (beginWrite op slot s).rcd = s.rcd ∧
    (beginWrite op slot s).evt = s.evt ∧ (beginWrite op slot s).sns = s.sns ∧ (beginWrite op slot s).ctl = s.ctl ∧
    (beginWrite op slot s).tx = s.tx ∧ (beginWrite op slot s).dec = s.dec ∧ (beginWrite op slot s).snsTx = s.snsTx ∧
    (beginWrite op slot s).freeIdx = s.freeIdx ∧ (beginWrite op slot s).pending = s.pending := by
  simp [beginWrite]

@[simp] theorem releaseCapture_frame (s : State) :
    (releaseCapture s).powered = s.powered ∧ (releaseCapture s).nrstHigh = s.nrstHigh ∧
    (releaseCapture s).wpHigh = s.wpHigh ∧ (releaseCapture s).lockenHigh = s.lockenHigh ∧
    (releaseCapture s).unitAddr = s.unitAddr ∧ (releaseCapture s).seq = s.seq ∧ (releaseCapture s).win = s.win ∧
    (releaseCapture s).line = s.line ∧ (releaseCapture s).trig = s.trig ∧ (releaseCapture s).rcd = s.rcd ∧
    (releaseCapture s).evt = s.evt ∧ (releaseCapture s).sns = s.sns ∧ (releaseCapture s).ctl = s.ctl ∧
    (releaseCapture s).tx = s.tx ∧ (releaseCapture s).store = s.store ∧ (releaseCapture s).load = s.load ∧
    (releaseCapture s).dec = s.dec ∧ (releaseCapture s).snsTx = s.snsTx ∧ (releaseCapture s).freeIdx = s.freeIdx ∧
    (releaseCapture s).pending = s.pending := by
  unfold releaseCapture; split <;> simp

@[simp] theorem applySetting_frame (k : Setting) (v : Nat) (s : State) :
    (applySetting k v s).powered = s.powered ∧ (applySetting k v s).nrstHigh = s.nrstHigh ∧
    (applySetting k v s).wpHigh = s.wpHigh ∧ (applySetting k v s).lockenHigh = s.lockenHigh ∧
    (applySetting k v s).unitAddr = s.unitAddr ∧ (applySetting k v s).seq = s.seq ∧
    (applySetting k v s).win = s.win ∧ (applySetting k v s).line = s.line ∧ (applySetting k v s).trig = s.trig ∧
    (applySetting k v s).cap = s.cap ∧ (applySetting k v s).rcd = s.rcd ∧ (applySetting k v s).sns = s.sns ∧
    (applySetting k v s).ctl = s.ctl ∧ (applySetting k v s).tx = s.tx ∧ (applySetting k v s).store = s.store ∧
    (applySetting k v s).load = s.load ∧ (applySetting k v s).snsTx = s.snsTx ∧
    (applySetting k v s).freeIdx = s.freeIdx ∧ (applySetting k v s).pending = s.pending := by
  cases k <;> simp [applySetting]

/-! ### Discarded frames (09 R174, R175; 07 R132) -/

theorem CauseSet.with_with (p : CauseSet) (c : Cause) : (p.with c).with c = p.with c := by
  simp only [CauseSet.with]; rw [BitVec.or_assoc, BitVec.or_self]

theorem CauseSet.with_comm (p : CauseSet) (c d : Cause) : (p.with c).with d = (p.with d).with c := by
  simp only [CauseSet.with]; rw [BitVec.or_assoc, BitVec.or_comm c.single, ← BitVec.or_assoc]

/-- The items an owed DROP report carries when it is raised now, if the mask holds DROP (07 R131, R132). -/
def State.dropItems (s : State) : Option DropItems :=
  if CauseSet.has s.evt.eventMask .drop then some { strokeNumber := s.seq.strokeNumber, depth := s.sns.latestDepth }
  else none

theorem dropInserted_eq (s : State) : dropInserted s = { s with
    tx := { s.tx with drop := min 65535 (s.tx.drop + 1) }
    evt := { s.evt with pending := CauseSet.with s.evt.pending .drop, dropOwed := s.evt.dropOwed.or s.dropItems } } := rfl

/-- Frames lost together: counted one by one, DROP raised when there is any. -/
theorem dropMany_eq (n : Nat) (s : State) (h : s.tx.drop ≤ 65535) : dropMany n s = { s with
    tx := { s.tx with drop := min 65535 (s.tx.drop + n) }
    evt := { s.evt with
      pending := if n = 0 then s.evt.pending else CauseSet.with s.evt.pending .drop
      dropOwed := if n = 0 then s.evt.dropOwed else s.evt.dropOwed.or s.dropItems } } := by
  induction n generalizing s with
  | zero => simp [dropMany]; rw [min_eq_right h]
  | succ n ih =>
    simp only [dropMany]
    rw [dropInserted_eq, ih _ (by simp)]
    simp only
    have h1 : min 65535 (min 65535 (s.tx.drop + 1) + n) = min 65535 (s.tx.drop + (n + 1)) := by omega
    rw [h1, CauseSet.with_with]
    have h3 : ∀ o x : Option DropItems, (o.or x).or x = o.or x := by intro o x; cases o <;> cases x <;> rfl
    simp only [State.dropItems, h3, ite_self, Nat.add_one_ne_zero, if_false]

/-- A cause outside the event-frame mask is made pending and no more (07 R130). -/
theorem raise_masked {c : Cause} {s : State} (h : CauseSet.has s.evt.eventMask c = false) (d : Detail) :
    raise c d s = { s with evt := { s.evt with pending := CauseSet.with s.evt.pending c } } := by
  unfold raise; rw [h]; rfl

/-- At a port that is not UP the event frame of a cause is created and discarded (09 R175). -/
theorem raise_discarded {c : Cause} {s : State} (h : CauseSet.has s.evt.eventMask c = true) (hp : s.ctl.port ≠ .up)
    (d : Detail) : raise c d s = { s with
      tx := { s.tx with drop := min 65535 (s.tx.drop + 1), created := s.tx.created + 1 }
      evt := { s.evt with
        pending := CauseSet.with (CauseSet.with s.evt.pending c) .drop
        dropOwed := s.evt.dropOwed.or s.dropItems } } := by
  unfold raise; rw [h]; unfold handOver
  simp only [State.queueTakes, hp, decide_false, Bool.false_and]; rfl

end Sys2Proof.Machine
end

