-- ==== Sys2Proof/Laws/Owners.lean ====
section
/-! SUPPORT. The owners of the commands: which blocks each leaves as they stand; the readers leave the whole state. -/

namespace Sys2Proof.Machine

@[simp] theorem ownValidate_state (a : Unit) (s : State) : (ownValidate a s).2 = s := by
  unfold ownValidate; repeat' split
  all_goals rfl

@[simp] theorem ownReadEdit_state (part : EditPart) (s : State) : (ownReadEdit part s).2 = s := by
  unfold ownReadEdit; repeat' split
  all_goals rfl

@[simp] theorem ownReadDirectory_state (a : Nat × Nat) (s : State) : (ownReadDirectory a s).2 = s := rfl

@[simp] theorem ownReadVerdicts_state (a : Nat × Nat) (s : State) : (ownReadVerdicts a s).2 = s := by
  unfold ownReadVerdicts; repeat' split
  all_goals rfl

@[simp] theorem ownReadTriggers_state (a : Unit) (s : State) : (ownReadTriggers a s).2 = s := rfl

@[simp] theorem ownReadCapture_state (a : Nat × Nat) (s : State) : (ownReadCapture a s).2 = s := by
  unfold ownReadCapture; repeat' split
  all_goals rfl

@[simp] theorem ownReadRecord_state (a : Nat × Nat) (s : State) : (ownReadRecord a s).2 = s := by
  unfold ownReadRecord; repeat' split
  all_goals rfl

@[simp] theorem ownReadStatus_state (a : Unit) (s : State) : (ownReadStatus a s).2 = s := rfl

@[simp] theorem ownReadIdent_state (a : Unit) (s : State) : (ownReadIdent a s).2 = s := rfl

@[simp] theorem ownGetSetting_state (k : Setting) (s : State) : (ownGetSetting k s).2 = s := rfl

@[simp] theorem editReply_frame (img : Image) (s : State) :
    ((editReply img s).2).powered = s.powered ∧ ((editReply img s).2).nrstHigh = s.nrstHigh ∧
    ((editReply img s).2).wpHigh = s.wpHigh ∧ ((editReply img s).2).lockenHigh = s.lockenHigh ∧
    ((editReply img s).2).unitAddr = s.unitAddr ∧ ((editReply img s).2).seq = s.seq ∧
    ((editReply img s).2).win = s.win ∧ ((editReply img s).2).line = s.line ∧ ((editReply img s).2).trig = s.trig ∧
    ((editReply img s).2).cap = s.cap ∧ ((editReply img s).2).rcd = s.rcd ∧ ((editReply img s).2).evt = s.evt ∧
    ((editReply img s).2).sns = s.sns ∧ ((editReply img s).2).ctl = s.ctl ∧ ((editReply img s).2).tx = s.tx ∧
    ((editReply img s).2).load = s.load ∧ ((editReply img s).2).dec = s.dec ∧ ((editReply img s).2).snsTx = s.snsTx ∧
    ((editReply img s).2).freeIdx = s.freeIdx ∧ ((editReply img s).2).pending = s.pending := by
  unfold editReply; split <;> simp

@[simp] theorem ownEditClear_frame (a : Unit) (s : State) :
    ((ownEditClear a s).2).powered = s.powered ∧ ((ownEditClear a s).2).nrstHigh = s.nrstHigh ∧
    ((ownEditClear a s).2).wpHigh = s.wpHigh ∧ ((ownEditClear a s).2).lockenHigh = s.lockenHigh ∧
    ((ownEditClear a s).2).unitAddr = s.unitAddr ∧ ((ownEditClear a s).2).seq = s.seq ∧
    ((ownEditClear a s).2).win = s.win ∧ ((ownEditClear a s).2).line = s.line ∧
    ((ownEditClear a s).2).trig = s.trig ∧ ((ownEditClear a s).2).cap = s.cap ∧ ((ownEditClear a s).2).rcd = s.rcd ∧
    ((ownEditClear a s).2).evt = s.evt ∧ ((ownEditClear a s).2).sns = s.sns ∧ ((ownEditClear a s).2).ctl = s.ctl ∧
    ((ownEditClear a s).2).tx = s.tx ∧ ((ownEditClear a s).2).load = s.load ∧ ((ownEditClear a s).2).dec = s.dec ∧
    ((ownEditClear a s).2).snsTx = s.snsTx ∧ ((ownEditClear a s).2).freeIdx = s.freeIdx ∧
    ((ownEditClear a s).2).pending = s.pending := by
  simp [ownEditClear]

@[simp] theorem ownSetHeader_frame (h : Header) (s : State) :
    ((ownSetHeader h s).2).powered = s.powered ∧ ((ownSetHeader h s).2).nrstHigh = s.nrstHigh ∧
    ((ownSetHeader h s).2).wpHigh = s.wpHigh ∧ ((ownSetHeader h s).2).lockenHigh = s.lockenHigh ∧
    ((ownSetHeader h s).2).unitAddr = s.unitAddr ∧ ((ownSetHeader h s).2).seq = s.seq ∧
    ((ownSetHeader h s).2).win = s.win ∧ ((ownSetHeader h s).2).line = s.line ∧
    ((ownSetHeader h s).2).trig = s.trig ∧ ((ownSetHeader h s).2).cap = s.cap ∧ ((ownSetHeader h s).2).rcd = s.rcd ∧
    ((ownSetHeader h s).2).evt = s.evt ∧ ((ownSetHeader h s).2).sns = s.sns ∧ ((ownSetHeader h s).2).ctl = s.ctl ∧
    ((ownSetHeader h s).2).tx = s.tx ∧ ((ownSetHeader h s).2).load = s.load ∧ ((ownSetHeader h s).2).dec = s.dec ∧
    ((ownSetHeader h s).2).snsTx = s.snsTx ∧ ((ownSetHeader h s).2).freeIdx = s.freeIdx ∧
    ((ownSetHeader h s).2).pending = s.pending := by
  simp [ownSetHeader]

@[simp] theorem ownPutGroup_frame (a : Nat × GroupRec) (s : State) :
    ((ownPutGroup a s).2).powered = s.powered ∧ ((ownPutGroup a s).2).nrstHigh = s.nrstHigh ∧
    ((ownPutGroup a s).2).wpHigh = s.wpHigh ∧ ((ownPutGroup a s).2).lockenHigh = s.lockenHigh ∧
    ((ownPutGroup a s).2).unitAddr = s.unitAddr ∧ ((ownPutGroup a s).2).seq = s.seq ∧
    ((ownPutGroup a s).2).win = s.win ∧ ((ownPutGroup a s).2).line = s.line ∧ ((ownPutGroup a s).2).trig = s.trig ∧
    ((ownPutGroup a s).2).cap = s.cap ∧ ((ownPutGroup a s).2).rcd = s.rcd ∧ ((ownPutGroup a s).2).evt = s.evt ∧
    ((ownPutGroup a s).2).sns = s.sns ∧ ((ownPutGroup a s).2).ctl = s.ctl ∧ ((ownPutGroup a s).2).tx = s.tx ∧
    ((ownPutGroup a s).2).load = s.load ∧ ((ownPutGroup a s).2).dec = s.dec ∧ ((ownPutGroup a s).2).snsTx = s.snsTx ∧
    ((ownPutGroup a s).2).freeIdx = s.freeIdx ∧ ((ownPutGroup a s).2).pending = s.pending := by
  simp [ownPutGroup]

@[simp] theorem ownPutPins_frame (a : Nat × List PinRec) (s : State) :
    ((ownPutPins a s).2).powered = s.powered ∧ ((ownPutPins a s).2).nrstHigh = s.nrstHigh ∧
    ((ownPutPins a s).2).wpHigh = s.wpHigh ∧ ((ownPutPins a s).2).lockenHigh = s.lockenHigh ∧
    ((ownPutPins a s).2).unitAddr = s.unitAddr ∧ ((ownPutPins a s).2).seq = s.seq ∧
    ((ownPutPins a s).2).win = s.win ∧ ((ownPutPins a s).2).line = s.line ∧ ((ownPutPins a s).2).trig = s.trig ∧
    ((ownPutPins a s).2).cap = s.cap ∧ ((ownPutPins a s).2).rcd = s.rcd ∧ ((ownPutPins a s).2).evt = s.evt ∧
    ((ownPutPins a s).2).sns = s.sns ∧ ((ownPutPins a s).2).ctl = s.ctl ∧ ((ownPutPins a s).2).tx = s.tx ∧
    ((ownPutPins a s).2).load = s.load ∧ ((ownPutPins a s).2).dec = s.dec ∧ ((ownPutPins a s).2).snsTx = s.snsTx ∧
    ((ownPutPins a s).2).freeIdx = s.freeIdx ∧ ((ownPutPins a s).2).pending = s.pending := by
  simp only [ownPutPins]; split
  · simp
  · split <;> simp

@[simp] theorem ownSetCounts_frame (c : Nat × Nat) (s : State) :
    ((ownSetCounts c s).2).powered = s.powered ∧ ((ownSetCounts c s).2).nrstHigh = s.nrstHigh ∧
    ((ownSetCounts c s).2).wpHigh = s.wpHigh ∧ ((ownSetCounts c s).2).lockenHigh = s.lockenHigh ∧
    ((ownSetCounts c s).2).unitAddr = s.unitAddr ∧ ((ownSetCounts c s).2).seq = s.seq ∧
    ((ownSetCounts c s).2).win = s.win ∧ ((ownSetCounts c s).2).line = s.line ∧
    ((ownSetCounts c s).2).trig = s.trig ∧ ((ownSetCounts c s).2).cap = s.cap ∧ ((ownSetCounts c s).2).rcd = s.rcd ∧
    ((ownSetCounts c s).2).evt = s.evt ∧ ((ownSetCounts c s).2).sns = s.sns ∧ ((ownSetCounts c s).2).ctl = s.ctl ∧
    ((ownSetCounts c s).2).tx = s.tx ∧ ((ownSetCounts c s).2).load = s.load ∧ ((ownSetCounts c s).2).dec = s.dec ∧
    ((ownSetCounts c s).2).snsTx = s.snsTx ∧ ((ownSetCounts c s).2).freeIdx = s.freeIdx ∧
    ((ownSetCounts c s).2).pending = s.pending := by
  simp [ownSetCounts]

@[simp] theorem ownEditLoad_frame (slot : Nat) (s : State) :
    ((ownEditLoad slot s).2).powered = s.powered ∧ ((ownEditLoad slot s).2).nrstHigh = s.nrstHigh ∧
    ((ownEditLoad slot s).2).wpHigh = s.wpHigh ∧ ((ownEditLoad slot s).2).lockenHigh = s.lockenHigh ∧
    ((ownEditLoad slot s).2).unitAddr = s.unitAddr ∧ ((ownEditLoad slot s).2).seq = s.seq ∧
    ((ownEditLoad slot s).2).win = s.win ∧ ((ownEditLoad slot s).2).line = s.line ∧
    ((ownEditLoad slot s).2).trig = s.trig ∧ ((ownEditLoad slot s).2).cap = s.cap ∧
    ((ownEditLoad slot s).2).rcd = s.rcd ∧ ((ownEditLoad slot s).2).evt = s.evt ∧
    ((ownEditLoad slot s).2).sns = s.sns ∧ ((ownEditLoad slot s).2).ctl = s.ctl ∧
    ((ownEditLoad slot s).2).tx = s.tx ∧ ((ownEditLoad slot s).2).load = s.load ∧
    ((ownEditLoad slot s).2).dec = s.dec ∧ ((ownEditLoad slot s).2).snsTx = s.snsTx ∧
    ((ownEditLoad slot s).2).freeIdx = s.freeIdx ∧ ((ownEditLoad slot s).2).pending = s.pending := by
  unfold ownEditLoad; split
  · simp
  · split <;> simp

@[simp] theorem startWrite_frame (op : NvOp) (slot : Nat) (s : State) :
    ((startWrite op slot s).2).powered = s.powered ∧ ((startWrite op slot s).2).nrstHigh = s.nrstHigh ∧
    ((startWrite op slot s).2).wpHigh = s.wpHigh ∧ ((startWrite op slot s).2).lockenHigh = s.lockenHigh ∧
    ((startWrite op slot s).2).unitAddr = s.unitAddr ∧ ((startWrite op slot s).2).seq = s.seq ∧
    ((startWrite op slot s).2).win = s.win ∧ ((startWrite op slot s).2).line = s.line ∧
    ((startWrite op slot s).2).trig = s.trig ∧ ((startWrite op slot s).2).cap = s.cap ∧
    ((startWrite op slot s).2).rcd = s.rcd ∧ ((startWrite op slot s).2).evt = s.evt ∧
    ((startWrite op slot s).2).sns = s.sns ∧ ((startWrite op slot s).2).ctl = s.ctl ∧
    ((startWrite op slot s).2).tx = s.tx ∧ ((startWrite op slot s).2).dec = s.dec ∧
    ((startWrite op slot s).2).snsTx = s.snsTx ∧ ((startWrite op slot s).2).freeIdx = s.freeIdx ∧
    ((startWrite op slot s).2).pending = s.pending := by
  unfold startWrite; split <;> simp

@[simp] theorem ownCommit_frame (slot : Nat) (s : State) :
    ((ownCommit slot s).2).powered = s.powered ∧ ((ownCommit slot s).2).nrstHigh = s.nrstHigh ∧
    ((ownCommit slot s).2).wpHigh = s.wpHigh ∧ ((ownCommit slot s).2).lockenHigh = s.lockenHigh ∧
    ((ownCommit slot s).2).unitAddr = s.unitAddr ∧ ((ownCommit slot s).2).seq = s.seq ∧
    ((ownCommit slot s).2).win = s.win ∧ ((ownCommit slot s).2).line = s.line ∧
    ((ownCommit slot s).2).trig = s.trig ∧ ((ownCommit slot s).2).cap = s.cap ∧ ((ownCommit slot s).2).rcd = s.rcd ∧
    ((ownCommit slot s).2).evt = s.evt ∧ ((ownCommit slot s).2).sns = s.sns ∧ ((ownCommit slot s).2).ctl = s.ctl ∧
    ((ownCommit slot s).2).tx = s.tx ∧ ((ownCommit slot s).2).dec = s.dec ∧ ((ownCommit slot s).2).snsTx = s.snsTx ∧
    ((ownCommit slot s).2).freeIdx = s.freeIdx ∧ ((ownCommit slot s).2).pending = s.pending := by
  unfold ownCommit; split
  · simp
  · split <;> simp

@[simp] theorem ownErase_frame (slot : Nat) (s : State) :
    ((ownErase slot s).2).powered = s.powered ∧ ((ownErase slot s).2).nrstHigh = s.nrstHigh ∧
    ((ownErase slot s).2).wpHigh = s.wpHigh ∧ ((ownErase slot s).2).lockenHigh = s.lockenHigh ∧
    ((ownErase slot s).2).unitAddr = s.unitAddr ∧ ((ownErase slot s).2).seq = s.seq ∧
    ((ownErase slot s).2).win = s.win ∧ ((ownErase slot s).2).line = s.line ∧ ((ownErase slot s).2).trig = s.trig ∧
    ((ownErase slot s).2).cap = s.cap ∧ ((ownErase slot s).2).rcd = s.rcd ∧ ((ownErase slot s).2).evt = s.evt ∧
    ((ownErase slot s).2).sns = s.sns ∧ ((ownErase slot s).2).ctl = s.ctl ∧ ((ownErase slot s).2).tx = s.tx ∧
    ((ownErase slot s).2).dec = s.dec ∧ ((ownErase slot s).2).snsTx = s.snsTx ∧
    ((ownErase slot s).2).freeIdx = s.freeIdx ∧ ((ownErase slot s).2).pending = s.pending := by
  simp [ownErase]

@[simp] theorem ownLockRange_frame (a : Nat × Nat × Bool) (s : State) :
    ((ownLockRange a s).2).powered = s.powered ∧ ((ownLockRange a s).2).nrstHigh = s.nrstHigh ∧
    ((ownLockRange a s).2).wpHigh = s.wpHigh ∧ ((ownLockRange a s).2).lockenHigh = s.lockenHigh ∧
    ((ownLockRange a s).2).unitAddr = s.unitAddr ∧ ((ownLockRange a s).2).seq = s.seq ∧
    ((ownLockRange a s).2).win = s.win ∧ ((ownLockRange a s).2).line = s.line ∧
    ((ownLockRange a s).2).trig = s.trig ∧ ((ownLockRange a s).2).cap = s.cap ∧ ((ownLockRange a s).2).rcd = s.rcd ∧
    ((ownLockRange a s).2).evt = s.evt ∧ ((ownLockRange a s).2).sns = s.sns ∧ ((ownLockRange a s).2).ctl = s.ctl ∧
    ((ownLockRange a s).2).tx = s.tx ∧ ((ownLockRange a s).2).load = s.load ∧ ((ownLockRange a s).2).dec = s.dec ∧
    ((ownLockRange a s).2).snsTx = s.snsTx ∧ ((ownLockRange a s).2).freeIdx = s.freeIdx ∧
    ((ownLockRange a s).2).pending = s.pending := by
  unfold ownLockRange; repeat' split
  all_goals simp

@[simp] theorem ownLockTight_frame (a : Unit) (s : State) :
    ((ownLockTight a s).2).powered = s.powered ∧ ((ownLockTight a s).2).nrstHigh = s.nrstHigh ∧
    ((ownLockTight a s).2).wpHigh = s.wpHigh ∧ ((ownLockTight a s).2).lockenHigh = s.lockenHigh ∧
    ((ownLockTight a s).2).unitAddr = s.unitAddr ∧ ((ownLockTight a s).2).seq = s.seq ∧
    ((ownLockTight a s).2).win = s.win ∧ ((ownLockTight a s).2).line = s.line ∧
    ((ownLockTight a s).2).trig = s.trig ∧ ((ownLockTight a s).2).cap = s.cap ∧ ((ownLockTight a s).2).rcd = s.rcd ∧
    ((ownLockTight a s).2).evt = s.evt ∧ ((ownLockTight a s).2).sns = s.sns ∧ ((ownLockTight a s).2).ctl = s.ctl ∧
    ((ownLockTight a s).2).tx = s.tx ∧ ((ownLockTight a s).2).load = s.load ∧ ((ownLockTight a s).2).dec = s.dec ∧
    ((ownLockTight a s).2).snsTx = s.snsTx ∧ ((ownLockTight a s).2).freeIdx = s.freeIdx ∧
    ((ownLockTight a s).2).pending = s.pending := by
  simp [ownLockTight]

@[simp] theorem ownProtect_frame (svc : Bool) (slot : Nat) (s : State) :
    ((ownProtect svc slot s).2).powered = s.powered ∧ ((ownProtect svc slot s).2).nrstHigh = s.nrstHigh ∧
    ((ownProtect svc slot s).2).wpHigh = s.wpHigh ∧ ((ownProtect svc slot s).2).lockenHigh = s.lockenHigh ∧
    ((ownProtect svc slot s).2).unitAddr = s.unitAddr ∧ ((ownProtect svc slot s).2).seq = s.seq ∧
    ((ownProtect svc slot s).2).win = s.win ∧ ((ownProtect svc slot s).2).line = s.line ∧
    ((ownProtect svc slot s).2).trig = s.trig ∧ ((ownProtect svc slot s).2).cap = s.cap ∧
    ((ownProtect svc slot s).2).rcd = s.rcd ∧ ((ownProtect svc slot s).2).evt = s.evt ∧
    ((ownProtect svc slot s).2).sns = s.sns ∧ ((ownProtect svc slot s).2).ctl = s.ctl ∧
    ((ownProtect svc slot s).2).tx = s.tx ∧ ((ownProtect svc slot s).2).load = s.load ∧
    ((ownProtect svc slot s).2).dec = s.dec ∧ ((ownProtect svc slot s).2).snsTx = s.snsTx ∧
    ((ownProtect svc slot s).2).freeIdx = s.freeIdx ∧ ((ownProtect svc slot s).2).pending = s.pending := by
  unfold ownProtect; repeat' split
  all_goals simp

@[simp] theorem ownClearProtect_frame (svc : Bool) (a : Unit) (s : State) :
    ((ownClearProtect svc a s).2).powered = s.powered ∧ ((ownClearProtect svc a s).2).nrstHigh = s.nrstHigh ∧
    ((ownClearProtect svc a s).2).wpHigh = s.wpHigh ∧ ((ownClearProtect svc a s).2).lockenHigh = s.lockenHigh ∧
    ((ownClearProtect svc a s).2).unitAddr = s.unitAddr ∧ ((ownClearProtect svc a s).2).seq = s.seq ∧
    ((ownClearProtect svc a s).2).win = s.win ∧ ((ownClearProtect svc a s).2).line = s.line ∧
    ((ownClearProtect svc a s).2).trig = s.trig ∧ ((ownClearProtect svc a s).2).cap = s.cap ∧
    ((ownClearProtect svc a s).2).rcd = s.rcd ∧ ((ownClearProtect svc a s).2).evt = s.evt ∧
    ((ownClearProtect svc a s).2).sns = s.sns ∧ ((ownClearProtect svc a s).2).ctl = s.ctl ∧
    ((ownClearProtect svc a s).2).tx = s.tx ∧ ((ownClearProtect svc a s).2).load = s.load ∧
    ((ownClearProtect svc a s).2).dec = s.dec ∧ ((ownClearProtect svc a s).2).snsTx = s.snsTx ∧
    ((ownClearProtect svc a s).2).freeIdx = s.freeIdx ∧ ((ownClearProtect svc a s).2).pending = s.pending := by
  unfold ownClearProtect; repeat' split
  all_goals simp

@[simp] theorem ownSelect_frame (slot : Nat) (s : State) :
    ((ownSelect slot s).2).powered = s.powered ∧ ((ownSelect slot s).2).nrstHigh = s.nrstHigh ∧
    ((ownSelect slot s).2).wpHigh = s.wpHigh ∧ ((ownSelect slot s).2).lockenHigh = s.lockenHigh ∧
    ((ownSelect slot s).2).unitAddr = s.unitAddr ∧ ((ownSelect slot s).2).seq = s.seq ∧
    ((ownSelect slot s).2).line = s.line ∧ ((ownSelect slot s).2).trig = s.trig ∧
    ((ownSelect slot s).2).cap = s.cap ∧ ((ownSelect slot s).2).rcd = s.rcd ∧ ((ownSelect slot s).2).evt = s.evt ∧
    ((ownSelect slot s).2).sns = s.sns ∧ ((ownSelect slot s).2).ctl = s.ctl ∧ ((ownSelect slot s).2).tx = s.tx ∧
    ((ownSelect slot s).2).store = s.store ∧ ((ownSelect slot s).2).dec = s.dec ∧
    ((ownSelect slot s).2).snsTx = s.snsTx ∧ ((ownSelect slot s).2).freeIdx = s.freeIdx ∧
    ((ownSelect slot s).2).pending = s.pending := by
  unfold ownSelect; split
  · simp
  · split <;> try simp
    split <;> simp

@[simp] theorem ownSetTrigger_frame (a : Nat × Trigger) (s : State) :
    ((ownSetTrigger a s).2).powered = s.powered ∧ ((ownSetTrigger a s).2).nrstHigh = s.nrstHigh ∧
    ((ownSetTrigger a s).2).wpHigh = s.wpHigh ∧ ((ownSetTrigger a s).2).lockenHigh = s.lockenHigh ∧
    ((ownSetTrigger a s).2).unitAddr = s.unitAddr ∧ ((ownSetTrigger a s).2).seq = s.seq ∧
    ((ownSetTrigger a s).2).win = s.win ∧ ((ownSetTrigger a s).2).line = s.line ∧
    ((ownSetTrigger a s).2).cap = s.cap ∧ ((ownSetTrigger a s).2).rcd = s.rcd ∧ ((ownSetTrigger a s).2).evt = s.evt ∧
    ((ownSetTrigger a s).2).sns = s.sns ∧ ((ownSetTrigger a s).2).ctl = s.ctl ∧ ((ownSetTrigger a s).2).tx = s.tx ∧
    ((ownSetTrigger a s).2).store = s.store ∧ ((ownSetTrigger a s).2).load = s.load ∧
    ((ownSetTrigger a s).2).dec = s.dec ∧ ((ownSetTrigger a s).2).snsTx = s.snsTx ∧
    ((ownSetTrigger a s).2).freeIdx = s.freeIdx ∧ ((ownSetTrigger a s).2).pending = s.pending := by
  simp [ownSetTrigger]

@[simp] theorem ownClearHits_frame (a : Unit) (s : State) :
    ((ownClearHits a s).2).powered = s.powered ∧ ((ownClearHits a s).2).nrstHigh = s.nrstHigh ∧
    ((ownClearHits a s).2).wpHigh = s.wpHigh ∧ ((ownClearHits a s).2).lockenHigh = s.lockenHigh ∧
    ((ownClearHits a s).2).unitAddr = s.unitAddr ∧ ((ownClearHits a s).2).seq = s.seq ∧
    ((ownClearHits a s).2).win = s.win ∧ ((ownClearHits a s).2).line = s.line ∧ ((ownClearHits a s).2).cap = s.cap ∧
    ((ownClearHits a s).2).rcd = s.rcd ∧ ((ownClearHits a s).2).evt = s.evt ∧ ((ownClearHits a s).2).sns = s.sns ∧
    ((ownClearHits a s).2).ctl = s.ctl ∧ ((ownClearHits a s).2).tx = s.tx ∧ ((ownClearHits a s).2).store = s.store ∧
    ((ownClearHits a s).2).load = s.load ∧ ((ownClearHits a s).2).dec = s.dec ∧
    ((ownClearHits a s).2).snsTx = s.snsTx ∧ ((ownClearHits a s).2).freeIdx = s.freeIdx ∧
    ((ownClearHits a s).2).pending = s.pending := by
  simp [ownClearHits]

@[simp] theorem ownCaptureNow_frame (a : Unit) (s : State) :
    ((ownCaptureNow a s).2).powered = s.powered ∧ ((ownCaptureNow a s).2).nrstHigh = s.nrstHigh ∧
    ((ownCaptureNow a s).2).wpHigh = s.wpHigh ∧ ((ownCaptureNow a s).2).lockenHigh = s.lockenHigh ∧
    ((ownCaptureNow a s).2).unitAddr = s.unitAddr ∧ ((ownCaptureNow a s).2).seq = s.seq ∧
    ((ownCaptureNow a s).2).win = s.win ∧ ((ownCaptureNow a s).2).line = s.line ∧
    ((ownCaptureNow a s).2).trig = s.trig ∧ ((ownCaptureNow a s).2).rcd = s.rcd ∧
    ((ownCaptureNow a s).2).sns = s.sns ∧ ((ownCaptureNow a s).2).ctl = s.ctl ∧
    ((ownCaptureNow a s).2).store = s.store ∧ ((ownCaptureNow a s).2).load = s.load ∧
    ((ownCaptureNow a s).2).dec = s.dec ∧ ((ownCaptureNow a s).2).snsTx = s.snsTx ∧
    ((ownCaptureNow a s).2).freeIdx = s.freeIdx ∧ ((ownCaptureNow a s).2).pending = s.pending := by
  simp [ownCaptureNow]

@[simp] theorem ownReleaseCapture_frame (a : Unit) (s : State) :
    ((ownReleaseCapture a s).2).powered = s.powered ∧ ((ownReleaseCapture a s).2).nrstHigh = s.nrstHigh ∧
    ((ownReleaseCapture a s).2).wpHigh = s.wpHigh ∧ ((ownReleaseCapture a s).2).lockenHigh = s.lockenHigh ∧
    ((ownReleaseCapture a s).2).unitAddr = s.unitAddr ∧ ((ownReleaseCapture a s).2).seq = s.seq ∧
    ((ownReleaseCapture a s).2).win = s.win ∧ ((ownReleaseCapture a s).2).line = s.line ∧
    ((ownReleaseCapture a s).2).trig = s.trig ∧ ((ownReleaseCapture a s).2).rcd = s.rcd ∧
    ((ownReleaseCapture a s).2).evt = s.evt ∧ ((ownReleaseCapture a s).2).sns = s.sns ∧
    ((ownReleaseCapture a s).2).ctl = s.ctl ∧ ((ownReleaseCapture a s).2).tx = s.tx ∧
    ((ownReleaseCapture a s).2).store = s.store ∧ ((ownReleaseCapture a s).2).load = s.load ∧
    ((ownReleaseCapture a s).2).dec = s.dec ∧ ((ownReleaseCapture a s).2).snsTx = s.snsTx ∧
    ((ownReleaseCapture a s).2).freeIdx = s.freeIdx ∧ ((ownReleaseCapture a s).2).pending = s.pending := by
  simp [ownReleaseCapture]

@[simp] theorem ownReadPending_frame (a : Unit) (s : State) :
    ((ownReadPending a s).2).powered = s.powered ∧ ((ownReadPending a s).2).nrstHigh = s.nrstHigh ∧
    ((ownReadPending a s).2).wpHigh = s.wpHigh ∧ ((ownReadPending a s).2).lockenHigh = s.lockenHigh ∧
    ((ownReadPending a s).2).unitAddr = s.unitAddr ∧ ((ownReadPending a s).2).seq = s.seq ∧
    ((ownReadPending a s).2).win = s.win ∧ ((ownReadPending a s).2).line = s.line ∧
    ((ownReadPending a s).2).trig = s.trig ∧ ((ownReadPending a s).2).cap = s.cap ∧
    ((ownReadPending a s).2).rcd = s.rcd ∧ ((ownReadPending a s).2).sns = s.sns ∧
    ((ownReadPending a s).2).ctl = s.ctl ∧ ((ownReadPending a s).2).tx = s.tx ∧
    ((ownReadPending a s).2).store = s.store ∧ ((ownReadPending a s).2).load = s.load ∧
    ((ownReadPending a s).2).dec = s.dec ∧ ((ownReadPending a s).2).snsTx = s.snsTx ∧
    ((ownReadPending a s).2).freeIdx = s.freeIdx ∧ ((ownReadPending a s).2).pending = s.pending := by
  unfold ownReadPending; split <;> simp

@[simp] theorem ownClearPending_frame (a : Unit) (s : State) :
    ((ownClearPending a s).2).powered = s.powered ∧ ((ownClearPending a s).2).nrstHigh = s.nrstHigh ∧
    ((ownClearPending a s).2).wpHigh = s.wpHigh ∧ ((ownClearPending a s).2).lockenHigh = s.lockenHigh ∧
    ((ownClearPending a s).2).unitAddr = s.unitAddr ∧ ((ownClearPending a s).2).seq = s.seq ∧
    ((ownClearPending a s).2).win = s.win ∧ ((ownClearPending a s).2).line = s.line ∧
    ((ownClearPending a s).2).trig = s.trig ∧ ((ownClearPending a s).2).cap = s.cap ∧
    ((ownClearPending a s).2).rcd = s.rcd ∧ ((ownClearPending a s).2).sns = s.sns ∧
    ((ownClearPending a s).2).ctl = s.ctl ∧ ((ownClearPending a s).2).tx = s.tx ∧
    ((ownClearPending a s).2).store = s.store ∧ ((ownClearPending a s).2).load = s.load ∧
    ((ownClearPending a s).2).dec = s.dec ∧ ((ownClearPending a s).2).snsTx = s.snsTx ∧
    ((ownClearPending a s).2).freeIdx = s.freeIdx ∧ ((ownClearPending a s).2).pending = s.pending := by
  simp [ownClearPending]

@[simp] theorem ownSetSetting_frame (a : Setting × Nat) (s : State) :
    ((ownSetSetting a s).2).powered = s.powered ∧ ((ownSetSetting a s).2).nrstHigh = s.nrstHigh ∧
    ((ownSetSetting a s).2).wpHigh = s.wpHigh ∧ ((ownSetSetting a s).2).lockenHigh = s.lockenHigh ∧
    ((ownSetSetting a s).2).unitAddr = s.unitAddr ∧ ((ownSetSetting a s).2).seq = s.seq ∧
    ((ownSetSetting a s).2).win = s.win ∧ ((ownSetSetting a s).2).line = s.line ∧
    ((ownSetSetting a s).2).trig = s.trig ∧ ((ownSetSetting a s).2).cap = s.cap ∧
    ((ownSetSetting a s).2).rcd = s.rcd ∧ ((ownSetSetting a s).2).sns = s.sns ∧ ((ownSetSetting a s).2).ctl = s.ctl ∧
    ((ownSetSetting a s).2).tx = s.tx ∧ ((ownSetSetting a s).2).store = s.store ∧
    ((ownSetSetting a s).2).load = s.load ∧ ((ownSetSetting a s).2).snsTx = s.snsTx ∧
    ((ownSetSetting a s).2).freeIdx = s.freeIdx ∧ ((ownSetSetting a s).2).pending = s.pending := by
  simp [ownSetSetting]

@[simp] theorem ownArm_frame (tag : List Byte) (s : State) :
    ((ownArm tag s).2).powered = s.powered ∧ ((ownArm tag s).2).nrstHigh = s.nrstHigh ∧
    ((ownArm tag s).2).wpHigh = s.wpHigh ∧ ((ownArm tag s).2).lockenHigh = s.lockenHigh ∧
    ((ownArm tag s).2).unitAddr = s.unitAddr ∧ ((ownArm tag s).2).line = s.line ∧ ((ownArm tag s).2).trig = s.trig ∧
    ((ownArm tag s).2).cap = s.cap ∧ ((ownArm tag s).2).rcd = s.rcd ∧ ((ownArm tag s).2).evt = s.evt ∧
    ((ownArm tag s).2).ctl = s.ctl ∧ ((ownArm tag s).2).tx = s.tx ∧ ((ownArm tag s).2).store = s.store ∧
    ((ownArm tag s).2).load = s.load ∧ ((ownArm tag s).2).dec = s.dec ∧ ((ownArm tag s).2).snsTx = s.snsTx ∧
    ((ownArm tag s).2).freeIdx = s.freeIdx ∧ ((ownArm tag s).2).pending = s.pending := by
  unfold ownArm; split <;> simp

@[simp] theorem ownDisarm_frame (a : Unit) (s : State) :
    ((ownDisarm a s).2).powered = s.powered ∧ ((ownDisarm a s).2).nrstHigh = s.nrstHigh ∧
    ((ownDisarm a s).2).wpHigh = s.wpHigh ∧ ((ownDisarm a s).2).lockenHigh = s.lockenHigh ∧
    ((ownDisarm a s).2).unitAddr = s.unitAddr ∧ ((ownDisarm a s).2).trig = s.trig ∧ ((ownDisarm a s).2).cap = s.cap ∧
    ((ownDisarm a s).2).sns = s.sns ∧ ((ownDisarm a s).2).ctl = s.ctl ∧ ((ownDisarm a s).2).store = s.store ∧
    ((ownDisarm a s).2).dec = s.dec ∧ ((ownDisarm a s).2).snsTx = s.snsTx ∧ ((ownDisarm a s).2).freeIdx = s.freeIdx ∧
    ((ownDisarm a s).2).pending = s.pending := by
  unfold ownDisarm; split <;> simp

@[simp] theorem ownResume_frame (a : Unit) (s : State) :
    ((ownResume a s).2).powered = s.powered ∧ ((ownResume a s).2).nrstHigh = s.nrstHigh ∧
    ((ownResume a s).2).wpHigh = s.wpHigh ∧ ((ownResume a s).2).lockenHigh = s.lockenHigh ∧
    ((ownResume a s).2).unitAddr = s.unitAddr ∧ ((ownResume a s).2).win = s.win ∧ ((ownResume a s).2).cap = s.cap ∧
    ((ownResume a s).2).rcd = s.rcd ∧ ((ownResume a s).2).evt = s.evt ∧ ((ownResume a s).2).sns = s.sns ∧
    ((ownResume a s).2).ctl = s.ctl ∧ ((ownResume a s).2).tx = s.tx ∧ ((ownResume a s).2).store = s.store ∧
    ((ownResume a s).2).load = s.load ∧ ((ownResume a s).2).dec = s.dec ∧ ((ownResume a s).2).snsTx = s.snsTx ∧
    ((ownResume a s).2).freeIdx = s.freeIdx ∧ ((ownResume a s).2).pending = s.pending := by
  unfold ownResume; split <;> simp

@[simp] theorem ownClearStop_frame (a : Unit) (s : State) :
    ((ownClearStop a s).2).powered = s.powered ∧ ((ownClearStop a s).2).nrstHigh = s.nrstHigh ∧
    ((ownClearStop a s).2).wpHigh = s.wpHigh ∧ ((ownClearStop a s).2).lockenHigh = s.lockenHigh ∧
    ((ownClearStop a s).2).unitAddr = s.unitAddr ∧ ((ownClearStop a s).2).seq = s.seq ∧
    ((ownClearStop a s).2).win = s.win ∧ ((ownClearStop a s).2).trig = s.trig ∧ ((ownClearStop a s).2).cap = s.cap ∧
    ((ownClearStop a s).2).rcd = s.rcd ∧ ((ownClearStop a s).2).evt = s.evt ∧ ((ownClearStop a s).2).sns = s.sns ∧
    ((ownClearStop a s).2).ctl = s.ctl ∧ ((ownClearStop a s).2).tx = s.tx ∧ ((ownClearStop a s).2).store = s.store ∧
    ((ownClearStop a s).2).load = s.load ∧ ((ownClearStop a s).2).dec = s.dec ∧
    ((ownClearStop a s).2).snsTx = s.snsTx ∧ ((ownClearStop a s).2).freeIdx = s.freeIdx ∧
    ((ownClearStop a s).2).pending = s.pending := by
  unfold ownClearStop; split <;> simp

@[simp] theorem ownResetUnit_frame (a : Unit) (s : State) :
    ((ownResetUnit a s).2).powered = s.powered ∧ ((ownResetUnit a s).2).nrstHigh = s.nrstHigh ∧
    ((ownResetUnit a s).2).wpHigh = s.wpHigh ∧ ((ownResetUnit a s).2).lockenHigh = s.lockenHigh ∧
    ((ownResetUnit a s).2).unitAddr = s.unitAddr ∧ ((ownResetUnit a s).2).ctl = s.ctl ∧
    ((ownResetUnit a s).2).snsTx = s.snsTx ∧ ((ownResetUnit a s).2).freeIdx = s.freeIdx ∧
    ((ownResetUnit a s).2).pending = s.pending := by
  unfold ownResetUnit; split
  · simp
  · split <;> simp

end Sys2Proof.Machine
end

