-- ==== Sys2Proof/Laws/Commands.lean ====
section
/-! SUPPORT. Taking a command: what `runCommand` does in each case, and the answer's frame. -/

namespace Sys2Proof.Machine

variable {α : Type} {n : Nat} {always : Bool} {parse : List Byte → Option α} {owner : α → State → Reply × State}
  {c : Command} {s : State}

theorem runCommand_of_holds (h : s.holds n c) :
    runCommand n always parse owner s
      = answered c (serve always parse owner c.args s).1 (serve always parse owner c.args s).2 := by
  obtain ⟨hl, hh, hn⟩ := h
  simp [runCommand, hl, hh, hn, answered]

/-- The owner carries out a command that the general checks pass. -/
theorem runCommand_of_takes (h : s.takes n c) {a : α} (ha : parse c.args = some a) :
    runCommand n always parse owner s = answered c (owner a s).1 (owner a s).2 := by
  rw [runCommand_of_holds h.1]; simp [serve, ha, h.2]

/-- READ STATUS and READ IDENT reach their owner while the scan runs too. -/
theorem runCommand_always (h : s.holds n c) {a : α} (ha : parse c.args = some a) :
    runCommand n true parse owner s = answered c (owner a s).1 (owner a s).2 := by
  rw [runCommand_of_holds h]; simp [serve, ha]

/-- Arguments that fit no form are refused RANGE. -/
theorem runCommand_range (h : s.holds n c) (ha : parse c.args = none) :
    runCommand n always parse owner s = refusedWith c .range s := by
  rw [runCommand_of_holds h]; simp [serve, ha, refusedWith]

/-- The scan refuses BUSY. -/
theorem runCommand_busy (h : s.holds n c) {a : α} (ha : parse c.args = some a) (hs : s.store.scanRunning = true) :
    runCommand n false parse owner s = refusedWith c .busy s := by
  rw [runCommand_of_holds h]; simp [serve, ha, hs, refusedWith]

/-- Whatever the hand holds, the command ends in an answer to an owner's result, a refusal, or nothing. -/
theorem runCommand_cases (P : State → Prop) (hs : P s)
    (hans : ∀ c r t, P t → P (answered c r t)) (hown : ∀ a, P (owner a s).2) :
    P (runCommand n always parse owner s) := by
  unfold runCommand
  split
  · exact hs
  · split
    · refine hans _ _ _ ?_
      unfold serve
      split
      · exact hs
      · split
        · exact hs
        · exact hown _
    · exact hs

@[simp] theorem answered_frame (c : Command) (r : Reply) (s : State) :
    (answered c r s).powered = s.powered ∧ (answered c r s).nrstHigh = s.nrstHigh ∧
    (answered c r s).wpHigh = s.wpHigh ∧ (answered c r s).lockenHigh = s.lockenHigh ∧
    (answered c r s).unitAddr = s.unitAddr ∧ (answered c r s).seq = s.seq ∧ (answered c r s).win = s.win ∧
    (answered c r s).line = s.line ∧ (answered c r s).trig = s.trig ∧ (answered c r s).cap = s.cap ∧
    (answered c r s).rcd = s.rcd ∧ (answered c r s).sns = s.sns ∧ (answered c r s).store = s.store ∧
    (answered c r s).load = s.load ∧ (answered c r s).snsTx = s.snsTx ∧ (answered c r s).freeIdx = s.freeIdx ∧
    (answered c r s).pending = s.pending := by
  simp [answered]

end Sys2Proof.Machine
end

