-- ==== Sys2Proof/Laws/Stroke.lean ====
section
/-! SUPPORT. Aborts, entries to IDLE, closes and completions: what each leaves in the blocks it touches. -/

namespace Sys2Proof.Machine

/-- An abort stops the timer and leaves ABORTED (02 R48). -/
theorem abort_seq (r : AbortReason) (d : Detail) (s : State) :
    (abort r d s).seq = { s.seq with stallTimer := none, phase := .aborted } := by
  simp [abort, abortBody, stopTimer]

/-- An abort clears the hold state, and sets the stop latch when its reason does (02 R48, R49). -/
theorem abort_line (r : AbortReason) (d : Detail) (s : State) :
    (abort r d s).line = { stop := s.line.stop || r.latches, hold := false } := by
  simp [abort, abortBody, abortLines]

/-- An abort turns UNTESTED entries to ABORTED (03 R72). -/
theorem abortBody_map (r : AbortReason) (d : Detail) (s : State) :
    (abortBody r d s).win.map = s.win.map.map MapEntry.abortMark := by
  simp [abortBody, markAbort]

theorem enterIdle_seq (s : State) : (enterIdle s).seq = { s.seq with phase := .idle, stallTimer := none } := by
  simp [enterIdle]

theorem enterIdle_line (s : State) : (enterIdle s).line = { s.line with hold := false } := by simp [enterIdle]

/-- A close changes the record unit by its record alone (07 R121). -/
theorem closeStroke_rcd (r : Option AbortReason) (d : Option Nat) (s : State) :
    (closeStroke r d s).rcd = (enterRecord (buildRecord r d s) s).rcd := by
  simp [closeStroke]

/-- The record of an abort carries the stroke's number and joins the history (07 R124). -/
theorem abortBody_rcd (r : AbortReason) (d : Detail) (s : State) :
    ∃ x : StrokeRecord, x.strokeNumber = s.seq.strokeNumber
      ∧ (abortBody r d s).rcd.history = keepLast 8 (s.rcd.history ++ [x]) := by
  refine ⟨buildRecord (some r) none (raiseReason r d (markAbort (stopTimer s))), ?_, ?_⟩
  · simp [buildRecord, stopTimer]
  · simp [abortBody, closeStroke_rcd, enterRecord]

theorem nvFinish_store (a : Option Nat) (b : Bool) (f : Option Nat) (s : State) :
    (nvFinish a b f s).store = { s.store with nvOp := none } := by
  cases f <;> simp [nvFinish, setNvOp]

theorem profile_of_load {s t : State} (h : t.load.active = s.load.active) : t.profile = s.profile := by
  unfold State.profile; rw [h]

end Sys2Proof.Machine
end

