-- ==== Sys2Proof/Laws/History.lean ====
section
/-! SUPPORT. Which operations keep `HistoryOrdered`. -/

namespace Sys2Proof.Machine

def HistCore (hist : List StrokeRecord) (n : Nat) (p : Phase) : Prop :=
  hist.length ≤ 8 ∧ (hist.map StrokeRecord.strokeNumber).Pairwise (· < ·) ∧ (∀ r ∈ hist, r.strokeNumber ≤ n)
  ∧ (p = .armed ∨ p.inStroke = true → ∀ r ∈ hist, r.strokeNumber < n)

theorem hist_iff (s) : HistoryOrdered s ↔ HistCore s.rcd.history s.seq.strokeNumber s.seq.phase := Iff.rfl

theorem keepLast_sub {α} (n) (l : List α) : (keepLast n l).Sublist l := List.drop_sublist _ _

theorem histCore_push {hist n x p} (h : hist.length ≤ 8 ∧ (hist.map StrokeRecord.strokeNumber).Pairwise (· < ·))
    (hn : ∀ r ∈ hist, r.strokeNumber < n) (hx : x.strokeNumber = n) (hp : p = Phase.aborted ∨ p = .idle ∨ p = .retract) :
    HistCore (keepLast 8 (hist ++ [x])) n p := by
  refine ⟨?_, ?_, ?_, ?_⟩
  · simp [keepLast]; omega
  · refine List.Pairwise.sublist ((keepLast_sub 8 _).map _) ?_
    simp [List.pairwise_append]
    refine ⟨h.2, fun r hr => ?_⟩
    rw [hx]; exact hn r hr
  · intro r hr
    have := (keepLast_sub 8 _).subset hr
    simp at this
    rcases this with h | h
    · exact (hn r h).le
    · subst h; exact hx.le
  · rcases hp with hp | hp | hp <;> simp [hp, Phase.inStroke]

theorem hist_congr {s t : State} (h : HistoryOrdered s) (hr : t.rcd = s.rcd) (hn : t.seq.strokeNumber = s.seq.strokeNumber)
    (hp : t.seq.phase = .armed ∨ t.seq.phase.inStroke = true → s.seq.phase = .armed ∨ s.seq.phase.inStroke = true) : HistoryOrdered t := by
  obtain ⟨h1, h2, h3, h4⟩ := h
  refine ⟨by rw [hr]; exact h1, by rw [hr]; exact h2, by rw [hr, hn]; exact h3, fun k => by rw [hr, hn]; exact h4 (hp k)⟩

theorem hist_same {s t : State} (h : HistoryOrdered s) (hr : t.rcd = s.rcd) (hn : t.seq = s.seq) : HistoryOrdered t :=
  hist_congr h hr (by rw [hn]) (by rw [hn]; exact id)

theorem hist_abort {s : State} (h : HistoryOrdered s) (hp : s.seq.phase.inStroke = true) (r d) : HistoryOrdered (abort r d s) := by
  obtain ⟨x, hx, hh⟩ := abortBody_rcd r d s
  have e : (abort r d s).rcd.history = keepLast 8 (s.rcd.history ++ [x]) := hh
  rw [hist_iff, e, abort_seq]
  exact histCore_push ⟨h.1, h.2.1⟩ (h.2.2.2 (Or.inr hp)) hx (Or.inl rfl)

theorem hist_enterIdle {s : State} (h : HistoryOrdered s) : HistoryOrdered (enterIdle s) :=
  hist_congr h (by simp) (by rw [enterIdle_seq]) (by rw [enterIdle_seq]; simp [Phase.inStroke])

theorem hist_abortDisarm {s : State} (h : HistoryOrdered s) (hp : s.seq.phase.inStroke = true) : HistoryOrdered (abortDisarm s) := by
  obtain ⟨x, hx, hh⟩ := abortBody_rcd .disarm .absent s
  have e : (abortDisarm s).rcd.history = keepLast 8 (s.rcd.history ++ [x]) := by simp [abortDisarm, hh]
  have e2 : (abortDisarm s).seq.strokeNumber = s.seq.strokeNumber := by
    rw [abortDisarm, enterIdle_seq]; simp [abortBody, stopTimer]
  have e3 : (abortDisarm s).seq.phase = .idle := by rw [abortDisarm, enterIdle_seq]
  rw [hist_iff, e, e2, e3]
  exact histCore_push ⟨h.1, h.2.1⟩ (h.2.2.2 (Or.inr hp)) hx (Or.inr (Or.inl rfl))

theorem hist_done {s : State} (h : HistoryOrdered s) (hp : s.seq.phase.inStroke = true) (d) : HistoryOrdered (strokeDone d s) := by
  have e : (strokeDone d s).rcd.history = keepLast 8 (s.rcd.history ++ [buildRecord none (some d) { s with seq := { s.seq with phase := .retract, stallTimer := none } }]) := by
    simp [strokeDone, closeStroke_rcd, enterRecord]
  have e2 : (strokeDone d s).seq = { s.seq with phase := .retract, stallTimer := none } := by simp [strokeDone]
  rw [hist_iff, e, e2]
  exact histCore_push ⟨h.1, h.2.1⟩ (h.2.2.2 (Or.inr hp)) rfl (Or.inr (Or.inr rfl))

theorem hist_hold {s : State} (h : HistoryOrdered s) : HistoryOrdered (holdRequest s) := by
  unfold holdRequest; split <;> rename_i hp
  iterate 3 exact hist_congr h (by simp) (by simp) (fun _ => Or.inr (by rw [hp]; rfl))
  all_goals exact h

theorem hist_trigger {s : State} (h : HistoryOrdered s) (d a n cs) : HistoryOrdered (triggerWork d a n cs s).1 := by
  simp only [triggerWork]; split
  · apply hist_hold; exact hist_same h rfl rfl
  · exact hist_same h rfl rfl

theorem hist_hand {s : State} (h : HistoryOrdered s) (x a cs) : HistoryOrdered (handToTriggers x a cs s).1 := by
  unfold handToTriggers; split
  · exact hist_trigger h ..
  · exact h

theorem hist_seat {s : State} (h : HistoryOrdered s) (hp : s.seq.phase.inStroke = true) (x) : HistoryOrdered (seatTest x s) := by
  simp only [seatTest]; split
  · split
    · exact hist_done h hp _
    · exact hist_abort h hp ..
  · split
    · exact hist_abort h hp ..
    · exact h

theorem seatingPhase_in (p b) (h : p = Phase.engage ∨ p = .seating) : (seatingPhase p b).inStroke = true := by
  rcases h with h | h <;> cases b <;> simp [seatingPhase, h, Phase.inStroke]

theorem hist_engage {s : State} (h : HistoryOrdered s) (hp : s.seq.phase = .engage ∨ s.seq.phase = .seating) (x g) : HistoryOrdered (engageWork x g s).1 := by
  have hs : s.seq.phase.inStroke = true := by rcases hp with hp | hp <;> rw [hp] <;> rfl
  have h' : ∀ w, HistoryOrdered (takeReport w s) := fun w => hist_congr h rfl rfl (fun _ => Or.inr hs)
  have k : ∀ w, (takeReport w s).seq.phase.inStroke = true := fun w => seatingPhase_in _ _ hp
  simp only [engageWork]; split
  · exact hist_abort (h' _) (k _) ..
  · exact hist_seat (h' _) (k _) _

theorem hist_phaseWork {s : State} (h : HistoryOrdered s) (x g) : HistoryOrdered (phaseWork x g s).1 := by
  unfold phaseWork; split <;> rename_i hp
  · unfold approachWork; split
    · exact hist_congr h rfl rfl id
    · split
      · exact hist_abort h (by rw [hp]; rfl) ..
      · apply hist_engage (s := takeContact x s)
        · exact hist_congr h rfl rfl (fun _ => Or.inr (by rw [hp]; rfl))
        · exact Or.inl rfl
  · exact hist_engage h (Or.inl hp) ..
  · exact hist_engage h (Or.inr hp) ..
  all_goals exact h

theorem hist_moveSample {s : State} (h : HistoryOrdered s) (hp : s.seq.phase.inStroke = true) (x g) : HistoryOrdered (moveSample x g s).1 := by
  unfold moveSample; split
  · exact hist_abort h hp ..
  · exact hist_abort h hp ..
  · exact hist_hand h ..
  · have h' : HistoryOrdered (advance x.depth s) := hist_congr h rfl rfl id
    exact hist_hand (hist_phaseWork h' x g) ..

theorem hist_stroke {s : State} (h : HistoryOrdered s) (hp : s.seq.phase.inStroke = true) (x g) : HistoryOrdered (strokeSample x g s).1 := by
  have e : (takePeak x (countSample s)).seq.phase = s.seq.phase := by unfold takePeak countSample; split <;> rfl
  have e' : (takePeak x (countSample s)).seq.strokeNumber = s.seq.strokeNumber := by unfold takePeak countSample; split <;> rfl
  have h' : HistoryOrdered (takePeak x (countSample s)) := hist_congr h (by simp) e' (by rw [e]; exact id)
  have hp' : (takePeak x (countSample s)).seq.phase.inStroke = true := by rw [e, hp]
  simp only [strokeSample]; split
  · exact hist_abort h' hp' ..
  · split
    · exact hist_abort h' hp' ..
    · exact hist_moveSample h' hp' ..

theorem hist_sequence {s : State} (h : HistoryOrdered s) (x g) : HistoryOrdered (sequence x g s).1 := by
  unfold sequence; split <;> rename_i hp
  · exact h
  · exact h
  · unfold retractSample; split
    · exact hist_enterIdle h
    · exact h
  · apply hist_stroke (s := beginApproach s)
    · exact hist_congr h rfl rfl (fun _ => Or.inl hp)
    · rfl
  all_goals exact hist_stroke h (by rw [hp]; rfl) ..

theorem hist_receive {s : State} (h : HistoryOrdered s) (b k) : HistoryOrdered (receiveSample b k s) := by
  unfold receiveSample; split
  · split
    · exact hist_same h rfl rfl
    · split
      · exact hist_same h (by simp) (by simp)
      · rename_i gap _
        have h' := hist_sequence (s := acceptSample (readSample b) gap s) (hist_same h rfl rfl) (readSample b) gap
        simp only [handleSample]; split <;> exact hist_same h' (by simp) (by simp)
  · exact h

theorem hist_sensorDown {u : State} (hu : HistoryOrdered u) : HistoryOrdered (sensorDown u) := by
  unfold sensorDown; split <;> rename_i hp
  iterate 4 exact hist_abort hu (by rw [hp]; rfl) _ _
  · apply hist_enterIdle; exact hist_same hu (by simp) (by simp)
  all_goals exact hist_same hu (by simp) (by simp)

theorem hist_command {α : Type} {n b} {parse : List Byte → Option α} {owner} {s : State} (h : HistoryOrdered s)
    (ho : ∀ a, HistoryOrdered (owner a s).2) : HistoryOrdered (runCommand n b parse owner s) :=
  runCommand_cases _ h (fun c r _ ht => hist_same ht (by simp) (by simp)) ho

theorem hist_empty {s : State} (hr : s.rcd.history = []) : HistoryOrdered s := by
  simp [HistoryOrdered, hr]

end Sys2Proof.Machine
end

