-- ==== Sys2Proof/Laws/Ledger.lean ====
section
/-! SUPPORT. Which operations keep `LedgerBalances`. -/

namespace Sys2Proof.Machine

theorem ledger_congr {s t : State} (h : LedgerBalances s) (ht : t.tx = s.tx) (hc : t.ctl.port = s.ctl.port) :
    LedgerBalances t := by unfold LedgerBalances; rw [ht, hc]; exact h

theorem ledger_handOver {s : State} (h : LedgerBalances s) (i) : LedgerBalances (handOver i s) := by
  obtain ⟨⟨d, h1, h2⟩, h3, h4⟩ := h
  unfold handOver
  simp only
  split
  · rename_i hq
    simp [State.queueTakes] at hq
    refine ⟨⟨d, ?_, h2⟩, ?_, ?_⟩
    · simp only [List.length_append, List.length_singleton]; omega
    · simp only [List.length_append, List.length_singleton]; omega
    · intro hp; exact absurd hq.1 hp
  · refine ⟨⟨d + 1, ?_, ?_⟩, h3, h4⟩
    · simp only [dropInserted, raiseDrop, countDrop]; omega
    · simp only [dropInserted, raiseDrop, countDrop]; omega

theorem ledger_raise {s : State} (h : LedgerBalances s) (c d) : LedgerBalances (raise c d s) := by
  unfold raise; simp only; split
  · apply ledger_handOver; exact ledger_congr h rfl rfl
  · exact ledger_congr h rfl rfl

theorem ledger_respond {s : State} (h : LedgerBalances s) (c r) : LedgerBalances (respond c r s) := ledger_handOver h _

theorem ledger_reportDrop {s : State} (h : LedgerBalances s) : LedgerBalances (reportDrop s) := by
  unfold reportDrop; split
  · exact h
  · rename_i d _; split
    · exact ledger_congr (ledger_handOver h (.event .drop d.strokeNumber d.depth (.count s.tx.drop))) rfl rfl
    · exact h

theorem ledger_forward {s : State} (h : LedgerBalances s) (f) : LedgerBalances (forward f s) := by
  obtain ⟨h1, h3, h4⟩ := h
  unfold forward; split
  · rename_i hp; exact ⟨h1, h3, fun hn => absurd hp hn⟩
  · exact ⟨h1, h3, h4⟩

theorem ledger_close {s : State} (h : LedgerBalances s) (r d) : LedgerBalances (closeStroke r d s) := by
  unfold closeStroke
  apply ledger_raise; apply ledger_handOver; exact ledger_congr h rfl rfl

theorem ledger_reason {s : State} (h : LedgerBalances s) (r d) : LedgerBalances (raiseReason r d s) := by
  unfold raiseReason; split
  · exact ledger_raise h _ _
  · exact h

theorem ledger_abortBody {s : State} (h : LedgerBalances s) (r d) : LedgerBalances (abortBody r d s) := by
  unfold abortBody
  have h0 : LedgerBalances (markAbort (stopTimer s)) := ledger_congr h rfl rfl
  exact ledger_congr (ledger_close (ledger_reason h0 r d) (some r) none) (by simp) (by simp)

theorem ledger_abort {s : State} (h : LedgerBalances s) (r d) : LedgerBalances (abort r d s) :=
  ledger_congr (ledger_abortBody h r d) rfl rfl

theorem ledger_enterIdle {s : State} (h : LedgerBalances s) : LedgerBalances (enterIdle s) :=
  ledger_congr h (by simp) (by simp)

theorem ledger_nvFinish {s : State} (h : LedgerBalances s) (a b f) : LedgerBalances (nvFinish a b f s) := by
  have h0 : LedgerBalances (setNvOp none s) := ledger_congr h rfl rfl
  cases f with
  | none => exact ledger_raise h0 _ _
  | some n => exact ledger_raise (ledger_raise h0 _ _) _ _

theorem ledger_promote (cs) : ∀ {s : State}, LedgerBalances s → LedgerBalances (promote cs s) := by
  induction cs with
  | nil => intro s h; exact ledger_congr h rfl rfl
  | cons c cs ih =>
    intro s h; unfold promote; split
    · exact ledger_congr h rfl rfl
    · exact ih (ledger_respond h _ _)

theorem ledger_settle {s : State} (h : LedgerBalances s) : LedgerBalances (settleHand s) := by
  unfold settleHand; split
  · exact h
  · exact ledger_promote _ h

theorem ledger_answered {s : State} (h : LedgerBalances s) (c r) : LedgerBalances (answered c r s) := by
  unfold answered releaseHand
  exact ledger_settle (ledger_congr (ledger_respond h c r) rfl rfl)

theorem ledger_hold {s : State} (h : LedgerBalances s) : LedgerBalances (holdRequest s) := by
  unfold holdRequest; split
  iterate 3 (apply ledger_raise; exact ledger_congr h rfl rfl)
  all_goals exact h

theorem ledger_trigger {s : State} (h : LedgerBalances s) (d a n cs) : LedgerBalances (triggerWork d a n cs s).1 := by
  simp only [triggerWork]; split
  · exact ledger_hold (ledger_congr h rfl rfl)
  · exact ledger_congr h rfl rfl

theorem ledger_hand {s : State} (h : LedgerBalances s) (x a cs) : LedgerBalances (handToTriggers x a cs s).1 := by
  unfold handToTriggers; split
  · exact ledger_trigger h ..
  · exact h

theorem ledger_seat {s : State} (h : LedgerBalances s) (x) : LedgerBalances (seatTest x s) := by
  simp only [seatTest]; split
  · split
    · unfold strokeDone; apply ledger_close; exact ledger_congr h rfl rfl
    · exact ledger_abort h ..
  · split
    · exact ledger_abort h ..
    · exact h

theorem ledger_engage {s : State} (h : LedgerBalances s) (x g) : LedgerBalances (engageWork x g s).1 := by
  have h' : ∀ w, LedgerBalances (takeReport w s) := fun w => ledger_congr h rfl rfl
  simp only [engageWork]; split
  · exact ledger_abort (h' _) ..
  · exact ledger_seat (h' _) _

theorem ledger_phaseWork {s : State} (h : LedgerBalances s) (x g) : LedgerBalances (phaseWork x g s).1 := by
  unfold phaseWork; split
  · unfold approachWork; split
    · exact ledger_congr h rfl rfl
    · split
      · exact ledger_abort h ..
      · exact ledger_engage (s := takeContact x s) (ledger_congr h rfl rfl) ..
  · exact ledger_engage h ..
  · exact ledger_engage h ..
  all_goals exact h

theorem ledger_moveSample {s : State} (h : LedgerBalances s) (x g) : LedgerBalances (moveSample x g s).1 := by
  unfold moveSample; split
  · exact ledger_abort h ..
  · exact ledger_abort h ..
  · exact ledger_hand h ..
  · exact ledger_hand (ledger_phaseWork (s := advance x.depth s) (ledger_congr h rfl rfl) x g) ..

theorem ledger_stroke {s : State} (h : LedgerBalances s) (x g) : LedgerBalances (strokeSample x g s).1 := by
  have h' : LedgerBalances (takePeak x (countSample s)) := ledger_congr h (by simp) (by simp)
  simp only [strokeSample]; split
  · exact ledger_abort h' ..
  · split
    · exact ledger_abort h' ..
    · exact ledger_moveSample h' ..

theorem ledger_sequence {s : State} (h : LedgerBalances s) (x g) : LedgerBalances (sequence x g s).1 := by
  unfold sequence; split
  · exact h
  · exact h
  · unfold retractSample; split
    · exact ledger_enterIdle h
    · exact h
  · exact ledger_stroke (s := beginApproach s) (ledger_congr h rfl rfl) ..
  all_goals exact ledger_stroke h ..

theorem ledger_freeze {s : State} (h : LedgerBalances s) : LedgerBalances (freeze s) := by
  unfold freeze; apply ledger_raise; exact ledger_congr h rfl rfl

theorem ledger_record {s : State} (h : LedgerBalances s) (e) : LedgerBalances (recordSample e s) := by
  unfold recordSample; split
  · exact ledger_congr h rfl rfl
  · simp only; split
    · apply ledger_freeze; exact ledger_congr h rfl rfl
    · exact ledger_congr h rfl rfl
  · exact h

theorem ledger_capture {s : State} (h : LedgerBalances s) : LedgerBalances (captureRequest s) := by
  unfold captureRequest; split
  · simp only; split
    · apply ledger_freeze; exact ledger_congr h rfl rfl
    · exact ledger_congr h rfl rfl
  all_goals exact ledger_congr h rfl rfl

theorem ledger_handle {s : State} (h : LedgerBalances s) (x g) : LedgerBalances (handleSample x g s).1 := by
  have h' := ledger_sequence (s := acceptSample x g s) (ledger_congr h rfl rfl) x g
  simp only [handleSample]; split
  · exact ledger_capture (ledger_record h' _)
  · exact ledger_record h' _

theorem ledger_receive {s : State} (h : LedgerBalances s) (b k) : LedgerBalances (receiveSample b k s) := by
  unfold receiveSample; split
  · split
    · exact ledger_congr h rfl rfl
    · split
      · unfold staleSample; apply ledger_forward; apply ledger_raise; exact ledger_congr h rfl rfl
      · exact ledger_forward (ledger_handle h ..) _
  · exact h

theorem ledger_consume {s : State} (h : LedgerBalances s) (c) : LedgerBalances (consume c s) := by
  unfold consume; split
  · exact ledger_settle (ledger_congr h rfl rfl)
  · exact ledger_congr h rfl rfl

theorem ledger_return {s : State} (h : LedgerBalances s) (f) : LedgerBalances (receiveReturn f s) := by
  unfold receiveReturn; split
  · split
    · exact ledger_congr h rfl rfl
    · split
      · simp only [routeCommand]; split
        · exact ledger_consume (ledger_congr h (by simp) (by simp)) _
        · split
          · exact ledger_consume h _
          · exact ledger_congr h (by simp) (by simp)
      · exact ledger_congr h (by simp) (by simp)
  · exact h

theorem ledger_begin {s : State} (h : LedgerBalances s) : LedgerBalances (beginSend s) := by
  obtain ⟨⟨d, h1, h2⟩, h3, h4⟩ := h
  unfold beginSend; split
  · rename_i hp; simp at hp
    obtain ⟨⟨_, hp⟩, hl⟩ := hp
    rw [hl] at h1
    split
    · refine ⟨⟨d, ?_, h2⟩, h3, fun hn => absurd hp hn⟩
      simpa [laneInserted] using h1
    · split
      · rename_i i rest hq
        rw [hq] at h1 h3
        simp [laneInserted] at h1 h3
        refine ⟨⟨d, ?_, h2⟩, by simp only; omega, fun hn => absurd hp hn⟩
        simp [laneInserted]; omega
      · exact ⟨⟨d, by simpa [hl] using h1, h2⟩, h3, h4⟩
  · exact ⟨⟨d, h1, h2⟩, h3, h4⟩

theorem ledger_end {s : State} (h : LedgerBalances s) : LedgerBalances (endSend s) := by
  obtain ⟨⟨d, h1, h2⟩, h3, h4⟩ := h
  unfold endSend; split
  · exact ⟨⟨d, h1, h2⟩, h3, h4⟩
  · rename_i o ho
    rw [ho] at h1
    split
    · refine ⟨⟨d, ?_, h2⟩, h3, ?_⟩
      · simp [laneInserted] at *; omega
      · intro hp; have := h4 hp; simp [ho] at this
    · exact ⟨⟨d, by rw [ho]; exact h1, h2⟩, h3, h4⟩

theorem dropMany_tx (n : Nat) : ∀ s : State, (dropMany n s).tx = if n = 0 then s.tx else { s.tx with drop := min 65535 (s.tx.drop + n) } := by
  induction n with
  | zero => intro s; simp [dropMany]
  | succ n ih =>
    intro s
    simp only [dropMany, ih, dropInserted, raiseDrop, countDrop]
    split
    · simp_all
    · simp; omega

theorem ledger_loseController {s : State} (h : LedgerBalances s) (a) : LedgerBalances (loseController a s) := by
  obtain ⟨⟨d, h1, h2⟩, h3, h4⟩ := h
  simp only [loseController]
  apply ledger_raise
  have key : ∀ u : State, u.tx = { s.tx with lane := none, fwd := [], queue := [] } → u.ctl.port = .down →
      LedgerBalances (dropMany (laneInserted s.tx.lane + s.tx.queue.length) u) := by
    intro u hu hc
    refine ⟨⟨d + laneInserted s.tx.lane + s.tx.queue.length, ?_, ?_⟩, ?_, ?_⟩
    · have l0 : laneInserted none = 0 := rfl
      rw [dropMany_tx]; split <;> simp [hu, l0] <;> omega
    · rw [dropMany_tx]; split <;> simp [hu] <;> omega
    · rw [dropMany_tx]; split <;> simp [hu]
    · rw [dropMany_tx]; split <;> simp [hu]
  split
  · exact ledger_congr (key { s with tx := { s.tx with lane := none, fwd := [], queue := [] }, ctl := { s.ctl with port := .down } } rfl rfl) (by simp) (by simp [countControllerBad])
  · exact key _ rfl rfl

theorem ledger_sensorDown {u : State} (hu : LedgerBalances u) : LedgerBalances (sensorDown u) := by
  unfold sensorDown; split
  iterate 4 exact ledger_abort hu _ _
  · exact ledger_enterIdle (ledger_raise hu _ _)
  all_goals exact ledger_raise hu _ _

theorem ledger_command {α : Type} {n b} {parse : List Byte → Option α} {owner} {s : State} (h : LedgerBalances s)
    (ho : ∀ a, LedgerBalances (owner a s).2) : LedgerBalances (runCommand n b parse owner s) :=
  runCommand_cases _ h (fun c r _ ht => ledger_answered ht c r) ho

theorem ledger_softReset {s : State} (h : LedgerBalances s) : LedgerBalances (softReset s) := by
  obtain ⟨_, _, h4⟩ := h
  refine ⟨⟨0, ?_, rfl⟩, by simp [softReset], fun hp => ?_⟩
  · simp only [softReset]; cases s.tx.lane with
    | none => rfl
    | some o => cases o <;> rfl
  · have := h4 hp; simp [softReset, this]

theorem ledger_powerUp (l a) (s : State) : LedgerBalances (powerUp l a s) :=
  ⟨⟨0, rfl, rfl⟩, by simp [powerUp], fun _ => ⟨rfl, rfl, rfl⟩⟩

theorem ledger_setPort {s : State} (h : LedgerBalances s) (p ps) (hq : p = .controller → s.ctl.port ≠ .up) : LedgerBalances (setPort p ps s) := by
  obtain ⟨h1, h3, h4⟩ := h
  cases p
  · exact ⟨h1, h3, h4⟩
  · exact ⟨h1, h3, fun _ => h4 (hq rfl)⟩

end Sys2Proof.Machine
end

