-- ==== Sys2Proof/Laws/Lines.lean ====
section
/-! SUPPORT. Which operations keep `LinesFollowPhase`. -/

namespace Sys2Proof.Machine

theorem lfp_congr {s t : State} (h : LinesFollowPhase s) (hl : t.line = s.line) (hs : t.seq = s.seq) :
    LinesFollowPhase t := by unfold LinesFollowPhase; rw [hl, hs]; exact h

theorem lfp_abort (r d s) : LinesFollowPhase (abort r d s) := by
  simp [LinesFollowPhase, abort_seq, abort_line]
theorem lfp_enterIdle (s) : LinesFollowPhase (enterIdle s) := by
  simp [LinesFollowPhase, enterIdle_seq, enterIdle_line]
theorem lfp_abortDisarm (s) : LinesFollowPhase (abortDisarm s) := lfp_enterIdle _

/-- running, not held nor stopped -/
theorem lfp_run {s t : State} (h : LinesFollowPhase s) (hp : s.seq.phase.inStroke = true) (hl : t.line = s.line)
    (hp' : t.seq.phase = s.seq.phase) (hh : t.seq.heldFrom = s.seq.heldFrom) : LinesFollowPhase t := by
  obtain ⟨h1, h2, h3, h4⟩ := h
  refine ⟨?_, ?_, ?_, ?_⟩
  · rw [hl, hp']; exact h1
  · rw [hl, hp']; exact h2
  · rw [hp', hp]; simp
  · rw [hp', hh]; exact h4

theorem lfp_hold {s : State} (h : LinesFollowPhase s) : LinesFollowPhase (holdRequest s) := by
  unfold holdRequest
  split <;> rename_i hp <;> try exact h
  all_goals
    obtain ⟨h1, h2, h3, h4⟩ := h
    have : s.line.stop = false := by
      by_contra hc; simp at hc; have := h1 hc; simp [hp] at this
    simp [LinesFollowPhase, hp, this, Phase.inStroke]

theorem lfp_trigger {s : State} (h : LinesFollowPhase s) (d a n cs) : LinesFollowPhase (triggerWork d a n cs s).1 := by
  simp only [triggerWork]
  split
  · exact lfp_hold (lfp_congr h rfl rfl)
  · exact lfp_congr h rfl rfl

theorem lfp_hand {s : State} (h : LinesFollowPhase s) (x a cs) : LinesFollowPhase (handToTriggers x a cs s).1 := by
  unfold handToTriggers; split
  · exact lfp_trigger h ..
  · exact h

theorem lfp_done {s : State} (h : LinesFollowPhase s) (hp : s.seq.phase = .seating) (d) :
    LinesFollowPhase (strokeDone d s) := by
  obtain ⟨h1, h2, h3, h4⟩ := h
  have a : s.line.stop = false := by
      by_contra hc; simp at hc; have := h1 hc; simp [hp] at this
  have b : s.line.hold = false := by
      by_contra hc; simp at hc; have := h2.1 hc; simp [hp] at this
  simp [LinesFollowPhase, strokeDone, a, b]

theorem lfp_seat {s : State} (h : LinesFollowPhase s) (x) : LinesFollowPhase (seatTest x s) := by
  simp only [seatTest]
  split
  · split
    · rename_i hp; exact lfp_done h hp.1 _
    · exact lfp_abort ..
  · split
    · exact lfp_abort ..
    · exact h

/-- between ENGAGE and SEATING, nothing else of note changes -/
theorem lfp_move {s t : State} (h : LinesFollowPhase s)
    (hp : s.seq.phase = .approach ∨ s.seq.phase = .engage ∨ s.seq.phase = .seating)
    (hp' : t.seq.phase = .approach ∨ t.seq.phase = .engage ∨ t.seq.phase = .seating) (hl : t.line = s.line) :
    LinesFollowPhase t := by
  obtain ⟨h1, h2, h3, h4⟩ := h
  have a : s.line.stop = false := by
      by_contra hc; simp at hc; have := h1 hc; rcases hp with hp | hp | hp <;> simp [hp] at this
  have b : s.line.hold = false := by
      by_contra hc; simp at hc; have := h2.1 hc; rcases hp with hp | hp | hp <;> simp [hp] at this
  rcases hp' with hp' | hp' | hp' <;> simp [LinesFollowPhase, hl, a, b, hp', Phase.inStroke]

theorem seatingPhase_cases (p b) (h : p = Phase.engage ∨ p = .seating) : seatingPhase p b = .engage ∨ seatingPhase p b = .seating := by
  rcases h with h | h <;> cases b <;> simp [seatingPhase, h]

theorem lfp_engage {s : State} (h : LinesFollowPhase s) (hp : s.seq.phase = .engage ∨ s.seq.phase = .seating) (x g) :
    LinesFollowPhase (engageWork x g s).1 := by
  simp only [engageWork]
  split
  · exact lfp_abort ..
  · exact lfp_seat (lfp_move (t := takeReport _ s) h (Or.inr hp) (Or.inr (seatingPhase_cases _ _ hp)) rfl) _

theorem lfp_approach {s : State} (h : LinesFollowPhase s) (hp : s.seq.phase = .approach) (x g) :
    LinesFollowPhase (approachWork x g s).1 := by
  unfold approachWork
  split
  · have e : (pushTare x s).seq.phase = s.seq.phase := rfl
    have l : (pushTare x s).line = s.line := rfl
    exact lfp_move h (Or.inl hp) (Or.inl (e.trans hp)) l
  · split
    · exact lfp_abort ..
    · have e : (takeContact x s).seq.phase = .engage := rfl
      have l : (takeContact x s).line = s.line := rfl
      exact lfp_engage (lfp_move h (Or.inl hp) (Or.inr (Or.inl e)) l) (Or.inl e) x g

theorem lfp_phaseWork {s : State} (h : LinesFollowPhase s) (x g) : LinesFollowPhase (phaseWork x g s).1 := by
  unfold phaseWork
  split <;> rename_i hp
  · exact lfp_approach h hp ..
  · exact lfp_engage h (by simp [hp]) ..
  · exact lfp_engage h (by simp [hp]) ..
  all_goals exact h

theorem lfp_moveSample {s : State} (h : LinesFollowPhase s) (hp : s.seq.phase.inStroke = true) (x g) :
    LinesFollowPhase (moveSample x g s).1 := by
  unfold moveSample
  split
  · exact lfp_abort ..
  · exact lfp_abort ..
  · exact lfp_hand h ..
  · have h' : LinesFollowPhase (advance x.depth s) := lfp_run h hp (by simp) rfl rfl
    exact lfp_hand (lfp_phaseWork h' x g) ..

theorem lfp_stroke {s : State} (h : LinesFollowPhase s) (hp : s.seq.phase.inStroke = true) (x g) :
    LinesFollowPhase (strokeSample x g s).1 := by
  have e : (takePeak x (countSample s)).seq.phase = s.seq.phase := by unfold takePeak countSample; split <;> rfl
  have e' : (takePeak x (countSample s)).seq.heldFrom = s.seq.heldFrom := by unfold takePeak countSample; split <;> rfl
  have h' : LinesFollowPhase (takePeak x (countSample s)) := lfp_run h hp (by simp) e e'
  simp only [strokeSample]
  split
  · exact lfp_abort ..
  · split
    · exact lfp_abort ..
    · exact lfp_moveSample h' (by rw [e, hp]) ..

theorem lfp_sequence {s : State} (h : LinesFollowPhase s) (x g) : LinesFollowPhase (sequence x g s).1 := by
  unfold sequence
  split <;> rename_i hp
  · exact h
  · exact h
  · simp only [retractSample]; split
    · exact lfp_enterIdle _
    · exact h
  · refine lfp_stroke ?_ (by simp [beginApproach, Phase.inStroke]) ..
    obtain ⟨h1, h2, h3, h4⟩ := h
    have a : s.line.stop = false := by
        by_contra hc; simp at hc; have := h1 hc; simp [hp] at this
    have b : s.line.hold = false := by
        by_contra hc; simp at hc; have := h2.1 hc; simp [hp] at this
    simp [LinesFollowPhase, beginApproach, a, b, Phase.inStroke]
  all_goals exact lfp_stroke h (by simp [hp, Phase.inStroke]) ..

theorem lfp_receiveSample {s : State} (h : LinesFollowPhase s) (b k) : LinesFollowPhase (receiveSample b k s) := by
  unfold receiveSample
  split
  · split
    · exact lfp_congr h rfl rfl
    · split
      · exact lfp_congr h (by simp) (by simp)
      · rename_i gap _
        have : LinesFollowPhase (sequence (readSample b) gap (acceptSample (readSample b) gap s)).1 :=
          lfp_sequence (s := acceptSample (readSample b) gap s) (lfp_congr h (by simp) (by simp)) ..
        simp only [handleSample]
        split
        · exact lfp_congr this (by simp) (by simp)
        · exact lfp_congr this (by simp) (by simp)
  · exact h

theorem lfp_command {α : Type} {n b} {parse : List Byte → Option α} {owner} {s : State} (h : LinesFollowPhase s)
    (ho : ∀ a, LinesFollowPhase (owner a s).2) : LinesFollowPhase (runCommand n b parse owner s) :=
  runCommand_cases _ h (fun _ _ _ ht => lfp_congr ht (by simp) (by simp)) ho
theorem lfp_command' {α : Type} {n b} {parse : List Byte → Option α} {owner} {s : State} (h : LinesFollowPhase s)
    (hl : ∀ a, (owner a s).2.line = s.line) (ho : ∀ a, (owner a s).2.seq = s.seq) : LinesFollowPhase (runCommand n b parse owner s) :=
  lfp_command h fun a => lfp_congr h (hl a) (ho a)

theorem lfp_sensorDown (u : State) (hu : LinesFollowPhase u) : LinesFollowPhase (sensorDown u) := by
  unfold sensorDown; split
  iterate 4 exact lfp_abort _ _ _
  · exact lfp_enterIdle _
  all_goals exact lfp_congr hu (by simp) (by simp)

theorem lfp_arm {s} (h : LinesFollowPhase s) (a) : LinesFollowPhase (ownArm a s).2 := by
    unfold ownArm; split
    · exact h
    · rename_i hr
      have hi : s.seq.phase = .idle := by
        by_contra hc; simp [armRefusal, hc] at hr
      have h1 : s.line.stop = false := by
        by_contra hc; simp at hc; simp [armRefusal, hi, hc] at hr
      have h0 : s.line.hold = false := by
        by_contra hc; simp at hc; have := h.2.1.1 hc; simp [hi] at this
      simp [LinesFollowPhase, beginStroke, h1, h0]

end Sys2Proof.Machine
end

