-- ==== Sys2Proof/Laws/Profiles.lean ====
section
/-! SUPPORT. Which operations keep `ProfilesValidated`. -/

namespace Sys2Proof.Machine

theorem prof_same {s t : State} (h : ProfilesValidated s) (hs : t.store.slots = s.store.slots)
    (hn : t.store.nvOp = s.store.nvOp) (hb : t.store.buffer = s.store.buffer) (hl : t.load = s.load) : ProfilesValidated t := by
  unfold ProfilesValidated; rw [hs, hn, hb, hl]; exact h
theorem prof_eq {s t : State} (h : ProfilesValidated s) (hs : t.store = s.store) (hl : t.load = s.load) : ProfilesValidated t := by
  unfold ProfilesValidated; rw [hs, hl]; exact h

theorem validate_stored (img : Image) : img.stored.validate = img.validate := by
  have hg : img.stored.liveGroups = img.liveGroups := by simp [Image.stored, Image.liveGroups, List.take_take]
  have hp : img.stored.livePins = img.livePins := by simp [Image.stored, Image.livePins, List.take_take]
  unfold Image.validate; rw [hg, hp]; rfl

theorem prof_idle {s : State} (h : ProfilesValidated s) : ProfilesValidated (loaderAtIdle s) := by
  unfold loaderAtIdle; split
  · rename_i img hi
    obtain ⟨h1, h2, h3, h4⟩ := h
    rw [hi] at h4
    exact ⟨h1, h2, h4, trivial⟩
  · rename_i hi
    obtain ⟨h1, h2, h3, h4⟩ := h
    exact ⟨h1, h2, h3, h4⟩
  · exact h

theorem prof_enterIdle {s : State} (h : ProfilesValidated s) : ProfilesValidated (enterIdle s) := by
  unfold enterIdle; apply prof_idle; exact prof_eq h rfl rfl

theorem prof_sequence {s : State} (h : ProfilesValidated s) (x g) : ProfilesValidated (sequence x g s).1 := by
  unfold sequence; split
  · exact h
  · exact h
  · unfold retractSample; split
    · exact prof_enterIdle h
    · exact h
  all_goals exact prof_eq h (by simp) (by simp)

theorem prof_receive {s : State} (h : ProfilesValidated s) (b k) : ProfilesValidated (receiveSample b k s) := by
  unfold receiveSample; split
  · split
    · exact prof_eq h rfl rfl
    · split
      · exact prof_eq h (by simp) (by simp)
      · rename_i gap _
        have h' := prof_sequence (s := acceptSample (readSample b) gap s) (prof_eq h rfl rfl) (readSample b) gap
        simp only [handleSample]; split <;> exact prof_eq h' (by simp) (by simp)
  · exact h

theorem prof_sensorDown {u : State} (hu : ProfilesValidated u) : ProfilesValidated (sensorDown u) := by
  unfold sensorDown; split
  iterate 4 exact prof_eq hu (by simp) (by simp)
  · apply prof_enterIdle; exact prof_eq hu (by simp) (by simp)
  all_goals exact prof_eq hu (by simp) (by simp)

theorem prof_command {α : Type} {n b} {parse : List Byte → Option α} {owner} {s : State} (h : ProfilesValidated s)
    (ho : ∀ a, ProfilesValidated (owner a s).2) : ProfilesValidated (runCommand n b parse owner s) :=
  runCommand_cases _ h (fun c r _ ht => prof_eq ht (by simp) (by simp)) ho

theorem broken_validated : SlotContent.broken.validated := by intro img h; simp [SlotContent.checked] at h
theorem erased_validated : SlotContent.erased.validated := by intro img h; simp [SlotContent.checked] at h
theorem found_validated {c : SlotContent} (h : c.validated) (b) : (c.found b).validated := by
  cases b
  · exact broken_validated
  · exact h
theorem content_validated {s : State} (h : ∀ c ∈ s.store.slots, c.validated) (n) : (s.content n).validated := by
  unfold State.content
  by_cases hn : n < s.store.slots.length
  · rw [List.getD_eq_getElem _ _ hn]; exact h _ (List.getElem_mem _)
  · rw [List.getD_eq_default _ _ (by omega)]; exact erased_validated

/-- slots set -/
theorem prof_set {s t : State} (h : ProfilesValidated s) (n) (c : SlotContent) (hc : c.validated)
    (hs : t.store.slots = s.store.slots.set n c)
    (hn : t.store.nvOp = s.store.nvOp ∨ t.store.nvOp = none) (hb : t.store.buffer = s.store.buffer ∨ t.store.nvOp = none)
    (hl : t.load.active.validated) (hl' : t.load.staged.validated) : ProfilesValidated t := by
  obtain ⟨h1, h2, h3, h4⟩ := h
  refine ⟨?_, ?_, hl, hl'⟩
  · rw [hs]; intro c' hc'
    rcases List.mem_or_eq_of_mem_set hc' with hm | hm
    · exact h1 _ hm
    · subst hm; exact hc
  · intro slot he
    rcases hn with hn | hn
    · rcases hb with hb | hb
      · rw [hb]; exact h2 slot (hn ▸ he)
      · simp [hb] at he
    · simp [hn] at he

theorem prof_write {s : State} (h : ProfilesValidated s) (op n) (hop : ∀ slot, op = .commit slot → s.store.buffer.validate = none) :
    ProfilesValidated (startWrite op n s).2 := by
  unfold startWrite; split
  · exact h
  · obtain ⟨h1, h2, h3, h4⟩ := h
    refine ⟨?_, ?_, h3, h4⟩
    · intro c' hc'
      rcases List.mem_or_eq_of_mem_set hc' with hm | hm
      · exact h1 _ hm
      · subst hm; exact broken_validated
    · intro slot he
      have : some op = some (.commit slot) := he
      injection this with this
      exact hop slot this

theorem prof_edit {s : State} (h : ProfilesValidated s) (img) : ProfilesValidated (editReply img s).2 := by
  unfold editReply; split
  · exact h
  · rename_i hb
    obtain ⟨h1, h2, h3, h4⟩ := h
    refine ⟨h1, ?_, h3, h4⟩
    intro slot he
    have he' : s.store.nvOp = some (.commit slot) := he
    simp [State.bufferHeld, he'] at hb

theorem prof_nv {s : State} (h : ProfilesValidated s) (op : NvOp) (hop : ∀ slot, op ≠ .commit slot) : ProfilesValidated (setNvOp (some op) s) := by
  obtain ⟨h1, h2, h3, h4⟩ := h
  refine ⟨h1, ?_, h3, h4⟩
  intro slot he
  have : some op = some (.commit slot) := he
  injection this with this
  exact absurd this (hop slot)

theorem prof_cut {s t : State} (h : ProfilesValidated s) (hs : t.store.slots = s.store.slots) (hn : t.store.nvOp = none) (ha : t.load.active.validated) (hg : t.load.staged.validated) : ProfilesValidated t :=
  ⟨by rw [hs]; exact h.1, by simp [hn], ha, hg⟩

theorem scan_validated (ch) : ∀ (l : List SlotContent) i, (∀ c ∈ l, c.validated) → ∀ c ∈ scanSlots ch i l, c.validated := by
  intro l; induction l with
  | nil => intro i h c hc; simp [scanSlots] at hc
  | cons a l ih =>
    intro i h c hc
    simp [scanSlots] at hc
    rcases hc with hc | hc
    · subst hc; exact found_validated (h a (by simp)) _
    · exact ih (i + 1) (fun c hc => h c (by simp [hc])) c hc

end Sys2Proof.Machine
end

