-- ==== Sys2Proof/Laws/Tables.lean ====
section
/-! SUPPORT. Which operations keep `TablesFollowPhase`. -/

namespace Sys2Proof.Machine

theorem freshMap_length (img : Image) : img.freshMap.length = img.livePins.length := by simp [Image.freshMap]
theorem assignMap_length (g e) : ∀ (ps : List PinRec) (m : List MapEntry), (assignMap g e ps m).length = m.length := by
  intro ps; induction ps with
  | nil => intro m; rfl
  | cons p ps ih => intro m; cases m with
    | nil => rfl
    | cons a m => simp [assignMap, ih]
theorem classifyGroup_length (img i g m) (w : WinWork) : (classifyGroup img i g m w).win.map.length = w.win.map.length := by
  simp [classifyGroup, assignVerdict, assignMap_length]
theorem closeEnded_length (img d) (w : WinState) : (closeEnded img d w).win.map.length = w.map.length := by
  unfold closeEnded
  simp only
  generalize hw : ({ win := { w with openSet := _ } } : WinWork) = w0
  have h0 : w0.win.map.length = w.map.length := by rw [← hw]
  rw [← h0]
  generalize (w.openSet.filter (WinEntry.ended img d)) = l
  clear hw h0
  induction l generalizing w0 with
  | nil => rfl
  | cons a l ih => rw [List.foldl_cons, ih, classifyGroup_length]
theorem openReached_length (img d net) : ∀ (gs : List GroupRec) i (w : WinWork), (openReached img d net gs i w).1.win.map.length = w.win.map.length := by
  intro gs; induction gs with
  | nil => intro i w; rfl
  | cons g gs ih =>
    intro i w; simp only [openReached]; split
    · split
      · rw [ih, classifyGroup_length]
      · rw [ih]
    · rfl
theorem windowWork_length (img x g net) (w : WinState) : (windowWork img x g net w).win.map.length = w.map.length := by
  simp [windowWork, openReached_length, closeEnded_length]

theorem tab_congr {s t : State} (h : TablesFollowPhase s) (hl : t.load.active = s.load.active) (hl1 : t.load.activeSlot = s.load.activeSlot)
    (hl2 : t.load.staged = s.load.staged) (hl3 : t.load.stagedSlot = s.load.stagedSlot) (hl4 : t.load.swapPending = s.load.swapPending)
    (hm : t.win.map.length = s.win.map.length)
    (hp : t.seq.phase = s.seq.phase ∨ s.seq.phase ≠ .idle) : TablesFollowPhase t := by
  obtain ⟨h1, h2, h3, h4, h5⟩ := h
  refine ⟨?_, ?_, by rw [hl, hl1]; exact h3, by rw [hl2, hl3]; exact h4, by rw [hm, profile_of_load hl]; exact h5⟩
  · intro h; rw [hl]; rcases hp with hp | hp
    · exact h1 (hp ▸ h)
    · exact h1 hp
  · rw [hl4, hl2]; intro h; rcases hp with hp | hp
    · rw [hp]; exact h2 h
    · exact absurd (h2 h).1 hp
theorem tab_eq {s t : State} (h : TablesFollowPhase s) (hl : t.load = s.load) (hm : t.win = s.win) (hp : t.seq = s.seq) : TablesFollowPhase t := by
  apply tab_congr h <;> simp [hl, hm, hp]
theorem tab_run {s t : State} (h : TablesFollowPhase s) (hl : t.load = s.load) (hm : t.win.map.length = s.win.map.length)
    (hp : s.seq.phase ≠ .idle) : TablesFollowPhase t := by
  apply tab_congr h <;> simp [hl, hm, hp]

theorem tab_idle {s : State} (h : TablesFollowPhase s) (hp : s.seq.phase ≠ .idle) : TablesFollowPhase (enterIdle s) := by
  obtain ⟨h1, h2, h3, h4, h5⟩ := h
  have hsw : s.load.swapPending = false := by
    by_contra hc; simp at hc; exact hp (h2 hc).1
  unfold enterIdle loaderAtIdle
  split
  · rename_i img hi
    simp only at hi
    refine ⟨fun _ => rfl, by simp [swapTables], ?_, by simp [swapTables], ?_⟩
    · simp only [swapTables]
      have := h4.1 (by rw [hi]; simp)
      simp [this]
    · simp [swapTables, State.profile, freshMap_length]
  · rename_i hi
    exact ⟨fun h => absurd rfl h, fun _ => ⟨rfl, hi⟩, h3, h4, h5⟩
  · exact ⟨fun h => absurd rfl h, by simp [hsw], h3, h4, h5⟩

theorem tab_abort {s : State} (h : TablesFollowPhase s) (hp : s.seq.phase ≠ .idle) (r d) : TablesFollowPhase (abort r d s) :=
  tab_run h (by simp) (by simp [abort, abortBody_map]) hp

theorem tab_seat {s : State} (h : TablesFollowPhase s) (hp : s.seq.phase ≠ .idle) (x) : TablesFollowPhase (seatTest x s) := by
  simp only [seatTest]; split
  · split
    · exact tab_run h (by simp) (by simp) hp
    · exact tab_abort h hp ..
  · split
    · exact tab_abort h hp ..
    · exact h

theorem tab_hand {s : State} (h : TablesFollowPhase s) (x a cs) : TablesFollowPhase (handToTriggers x a cs s).1 := by
  have hold : ∀ u : State, TablesFollowPhase u → TablesFollowPhase (holdRequest u) := by
    intro u hu; unfold holdRequest; split <;> rename_i hp
    iterate 3 exact tab_run hu (by simp) (by simp) (by simp [hp])
    all_goals exact hu
  unfold handToTriggers; split
  · simp only [triggerWork]; split
    · apply hold; exact tab_eq h rfl rfl rfl
    · exact tab_eq h rfl rfl rfl
  · exact h

theorem tab_engage {s : State} (h : TablesFollowPhase s) (hp : s.seq.phase = .engage ∨ s.seq.phase = .seating) (x g) : TablesFollowPhase (engageWork x g s).1 := by
  have hn : s.seq.phase ≠ .idle := by rcases hp with hp | hp <;> simp [hp]
  have h' : TablesFollowPhase (takeReport (windowReport x g s).win s) := tab_run h rfl (windowWork_length ..) hn
  have hn' : ∀ w, (takeReport w s).seq.phase ≠ .idle := by
    intro w; simp only [takeReport, seatingPhase]; split
    · simp
    · exact hn
  simp only [engageWork]; split
  · exact tab_abort h' (hn' _) ..
  · exact tab_seat h' (hn' _) _

theorem tab_phaseWork {s : State} (h : TablesFollowPhase s) (x g) : TablesFollowPhase (phaseWork x g s).1 := by
  unfold phaseWork; split <;> rename_i hp
  · have hn : s.seq.phase ≠ .idle := by simp [hp]
    unfold approachWork; split
    · exact tab_run h rfl rfl hn
    · split
      · exact tab_abort h hn ..
      · apply tab_engage (s := takeContact x s)
        · exact tab_run h rfl rfl hn
        · exact Or.inl rfl
  · exact tab_engage h (Or.inl hp) ..
  · exact tab_engage h (Or.inr hp) ..
  all_goals exact h

theorem tab_moveSample {s : State} (h : TablesFollowPhase s) (hp : s.seq.phase ≠ .idle) (x g) : TablesFollowPhase (moveSample x g s).1 := by
  unfold moveSample; split
  · exact tab_abort h hp ..
  · exact tab_abort h hp ..
  · exact tab_hand h ..
  · have h' : TablesFollowPhase (advance x.depth s) := tab_run h rfl rfl hp
    exact tab_hand (tab_phaseWork h' x g) ..

theorem tab_stroke {s : State} (h : TablesFollowPhase s) (hp : s.seq.phase ≠ .idle) (x g) : TablesFollowPhase (strokeSample x g s).1 := by
  have e : (takePeak x (countSample s)).seq.phase = s.seq.phase := by unfold takePeak countSample; split <;> rfl
  have h' : TablesFollowPhase (takePeak x (countSample s)) := tab_run h (by simp) (by simp) hp
  have hp' : (takePeak x (countSample s)).seq.phase ≠ .idle := by rw [e]; exact hp
  simp only [strokeSample]; split
  · exact tab_abort h' hp' ..
  · split
    · exact tab_abort h' hp' ..
    · exact tab_moveSample h' hp' ..

theorem tab_sequence {s : State} (h : TablesFollowPhase s) (x g) : TablesFollowPhase (sequence x g s).1 := by
  unfold sequence; split <;> rename_i hp
  · exact h
  · exact h
  · unfold retractSample; split
    · exact tab_idle h (by simp [hp])
    · exact h
  · apply tab_stroke (s := beginApproach s)
    · exact tab_run h rfl rfl (by simp [hp])
    · simp [beginApproach]
  all_goals exact tab_stroke h (by simp [hp]) ..

theorem tab_receive {s : State} (h : TablesFollowPhase s) (b k) : TablesFollowPhase (receiveSample b k s) := by
  unfold receiveSample; split
  · split
    · exact tab_eq h rfl rfl rfl
    · split
      · exact tab_eq h (by simp) (by simp) (by simp)
      · rename_i gap _
        have h' := tab_sequence (s := acceptSample (readSample b) gap s) (tab_eq h rfl rfl rfl) (readSample b) gap
        simp only [handleSample]; split <;> exact tab_eq h' (by simp) (by simp) (by simp)
  · exact h

theorem tab_sensorDown {u : State} (hu : TablesFollowPhase u) : TablesFollowPhase (sensorDown u) := by
  unfold sensorDown; split <;> rename_i hp
  iterate 4 exact tab_abort hu (by simp [hp]) _ _
  · apply tab_idle
    · exact tab_eq hu (by simp) (by simp) (by simp)
    · simp [hp]
  all_goals exact tab_eq hu (by simp) (by simp) (by simp)

theorem tab_command {α : Type} {n b} {parse : List Byte → Option α} {owner} {s : State} (h : TablesFollowPhase s)
    (ho : ∀ a, TablesFollowPhase (owner a s).2) : TablesFollowPhase (runCommand n b parse owner s) :=
  runCommand_cases _ h (fun c r _ ht => tab_eq ht (by simp) (by simp) (by simp)) ho

theorem tab_empty {s : State} (hl : s.load = {}) (hm : s.win.map = []) (hp : s.seq.phase = .idle) : TablesFollowPhase s := by
  simp [TablesFollowPhase, hl, hm, hp, State.profile, Image.livePins]

end Sys2Proof.Machine
end

