-- ==== Sys2Proof/Laws/Validation.lean ====
section
/-! SUPPORT. Validation: what each search for a failing item finds (01 R16-R23). -/

namespace Sys2Proof.Machine

/-- A search finds the lowest failing item, or nothing when no item fails. -/
def FindsLowest (r : Option Nat) (bad : Nat → Prop) : Prop :=
  (r = none ↔ ∀ k, ¬ bad k) ∧ ∀ k, r = some k → bad k ∧ ∀ j < k, ¬ bad j

theorem FindsLowest.of_iff {r : Option Nat} {bad bad' : Nat → Prop} (h : FindsLowest r bad) (hb : ∀ k, bad k ↔ bad' k) :
    FindsLowest r bad' := by
  rw [← show bad = bad' from funext fun k => propext (hb k)]; exact h

theorem firstIndex_cases {α : Type} (p : α → Bool) (l : List α) :
    (firstIndex p l = none ↔ ∀ (k : Nat) (a : α), l[k]? = some a → p a = false)
    ∧ ∀ k, firstIndex p l = some k →
      (∃ a, l[k]? = some a ∧ p a = true) ∧ ∀ j < k, ∀ a, l[j]? = some a → p a = false := by
  induction l with
  | nil => simp [firstIndex]
  | cons a l ih =>
    obtain ⟨i1, i2⟩ := ih
    simp only [firstIndex]
    by_cases ha : p a = true
    · simp only [ha, if_true]
      refine ⟨⟨by simp, fun h => ?_⟩, fun k hk => ?_⟩
      · have := h 0 a rfl; simp_all
      · cases hk; exact ⟨⟨a, rfl, ha⟩, by simp⟩
    · simp only [ha]
      simp only [Bool.not_eq_true] at ha
      refine ⟨?_, fun k hk => ?_⟩
      · simp only [Option.map_eq_none_iff, if_neg (by simp : ¬ (false = true)), i1]
        constructor
        · intro h k b hk
          cases k with
          | zero => simp at hk; subst hk; exact ha
          | succ k => exact h k b (by simpa using hk)
        · intro h k b hk; exact h (k + 1) b (by simpa using hk)
      · simp at hk
        obtain ⟨m, hm, rfl⟩ := hk
        obtain ⟨⟨b, hb, hp⟩, h2⟩ := i2 m hm
        refine ⟨⟨b, by simpa using hb, hp⟩, fun j hj b' hb' => ?_⟩
        cases j with
        | zero => simp at hb'; subst hb'; exact ha
        | succ j => exact h2 j (by omega) b' (by simpa using hb')

/-- `firstIndex` finds the lowest item with the property. -/
theorem firstIndex_lowest {α : Type} (p : α → Bool) (q : α → Prop) (l : List α) (hq : ∀ a, p a = true ↔ q a) :
    FindsLowest (firstIndex p l) (fun k => ∃ a, l[k]? = some a ∧ q a) := by
  obtain ⟨h1, h2⟩ := firstIndex_cases p l
  refine ⟨h1.trans ⟨?_, fun h k a hk => ?_⟩, fun k hk => ?_⟩
  · rintro h k ⟨a, h3, h4⟩; have := h k a h3; rw [← hq a] at h4; simp_all
  · by_contra hc; exact h k ⟨a, hk, (hq a).1 (by simpa using hc)⟩
  · obtain ⟨⟨a, h3, h4⟩, h5⟩ := h2 k hk
    refine ⟨⟨a, h3, (hq a).1 h4⟩, ?_⟩
    rintro j hj ⟨b, h6, h7⟩
    have := h5 j hj b h6; rw [← hq b] at h7; simp_all

/-- V-ORDER finds the first group below its predecessor (R18). -/
theorem orderFault_lowest (l : List GroupRec) :
    FindsLowest (orderFault l) (fun k => ∃ g, l[k]? = some g ∧ ∃ j a, j + 1 = k ∧ l[j]? = some a ∧ g.start < a.start) := by
  induction l with
  | nil => exact ⟨by simp [orderFault], by simp [orderFault]⟩
  | cons a l ih =>
    cases l with
    | nil =>
      refine ⟨⟨fun _ => ?_, fun _ => rfl⟩, by simp [orderFault]⟩
      rintro k ⟨g, h1, j, b, rfl, h2, h3⟩; simp at h1
    | cons b rest =>
      obtain ⟨i1, i2⟩ := ih
      by_cases h : b.start < a.start
      · simp only [orderFault, h, if_true]
        refine ⟨⟨by simp, fun hc => absurd ⟨b, rfl, 0, a, rfl, rfl, h⟩ (hc 1)⟩, fun k hk => ?_⟩
        cases hk
        refine ⟨⟨b, rfl, 0, a, rfl, rfl, h⟩, ?_⟩
        rintro j hj ⟨g, h1, m, x, hm, h2⟩; omega
      · simp only [orderFault, h, if_false]
        refine ⟨?_, fun k hk => ?_⟩
        · rw [Option.map_eq_none_iff, i1]
          constructor
          · rintro hh k ⟨g, h1, j, x, rfl, h2, h3⟩
            cases j with
            | zero => simp at h1 h2; subst h1; subst h2; exact h h3
            | succ j => exact hh (j + 1) ⟨g, by simpa using h1, j, x, rfl, by simpa using h2, h3⟩
          · rintro hh k ⟨g, h1, j, x, rfl, h2, h3⟩
            exact hh (j + 1 + 1) ⟨g, by simpa using h1, j + 1, x, rfl, by simpa using h2, h3⟩
        · rw [Option.map_eq_some_iff] at hk
          obtain ⟨m, hm, rfl⟩ := hk
          obtain ⟨⟨g, h1, j, x, rfl, h2, h3⟩, h4⟩ := i2 m hm
          refine ⟨⟨g, by simpa using h1, j + 1, x, rfl, by simpa using h2, h3⟩, ?_⟩
          rintro q hq ⟨g', k1, j', x', rfl, k2, k3⟩
          cases j' with
          | zero => simp at k1 k2; subst k1; subst k2; exact h k3
          | succ j' => exact h4 (j' + 1) (by omega) ⟨g', by simpa using k1, j', x', rfl, by simpa using k2, k3⟩

/-- V-LABEL finds the first pin whose label was seen before the list, or stands at a lower index (R22). -/
theorem labelFault_lowest (ps : List PinRec) (seen : List (Nat × Nat)) :
    FindsLowest (labelFault seen ps) (fun k => ∃ p, ps[k]? = some p
      ∧ ((p.row, p.col) ∈ seen ∨ ∃ j q, j < k ∧ ps[j]? = some q ∧ q.row = p.row ∧ q.col = p.col)) := by
  induction ps generalizing seen with
  | nil => exact ⟨by simp [labelFault], by simp [labelFault]⟩
  | cons a ps ih =>
    by_cases h : (a.row, a.col) ∈ seen
    · simp only [labelFault, h, if_true]
      refine ⟨⟨by simp, fun hc => absurd ⟨a, rfl, Or.inl h⟩ (hc 0)⟩, fun k hk => ?_⟩
      cases hk; exact ⟨⟨a, rfl, Or.inl h⟩, by simp⟩
    · simp only [labelFault, h, if_false]
      obtain ⟨i1, i2⟩ := ih ((a.row, a.col) :: seen)
      have step : ∀ k, (∃ p, ps[k]? = some p ∧ ((p.row, p.col) ∈ (a.row, a.col) :: seen
            ∨ ∃ j q, j < k ∧ ps[j]? = some q ∧ q.row = p.row ∧ q.col = p.col)) ↔
          ∃ p, (a :: ps)[k + 1]? = some p ∧ ((p.row, p.col) ∈ seen
            ∨ ∃ j q, j < k + 1 ∧ (a :: ps)[j]? = some q ∧ q.row = p.row ∧ q.col = p.col) := by
        intro k
        simp only [List.getElem?_cons_succ, List.mem_cons, Prod.mk.injEq]
        constructor
        · rintro ⟨p, h1, (⟨h2, h3⟩ | h2) | ⟨j, q, h2, h3, h4⟩⟩
          · exact ⟨p, h1, Or.inr ⟨0, a, by omega, rfl, h2.symm, h3.symm⟩⟩
          · exact ⟨p, h1, Or.inl h2⟩
          · exact ⟨p, h1, Or.inr ⟨j + 1, q, by omega, by simpa using h3, h4⟩⟩
        · rintro ⟨p, h1, h2 | ⟨j, q, h2, h3, h4, h5⟩⟩
          · exact ⟨p, h1, Or.inl (Or.inr h2)⟩
          · cases j with
            | zero => simp at h3; subst h3; exact ⟨p, h1, Or.inl (Or.inl ⟨h4.symm, h5.symm⟩)⟩
            | succ j => exact ⟨p, h1, Or.inr ⟨j, q, by omega, by simpa using h3, h4, h5⟩⟩
      have zero : ¬ ∃ p, (a :: ps)[0]? = some p ∧ ((p.row, p.col) ∈ seen
          ∨ ∃ j q, j < 0 ∧ (a :: ps)[j]? = some q ∧ q.row = p.row ∧ q.col = p.col) := by
        rintro ⟨p, h1, h2 | ⟨j, q, h2, _⟩⟩
        · simp at h1; subst h1; exact h h2
        · omega
      refine ⟨?_, fun k hk => ?_⟩
      · rw [Option.map_eq_none_iff, i1]
        constructor
        · intro hh k
          cases k with
          | zero => exact zero
          | succ k => exact (not_congr (step k)).1 (hh k)
        · intro hh k; exact (not_congr (step k)).2 (hh (k + 1))
      · rw [Option.map_eq_some_iff] at hk
        obtain ⟨m, hm, rfl⟩ := hk
        obtain ⟨h1, h2⟩ := i2 m hm
        refine ⟨(step m).1 h1, fun j hj => ?_⟩
        cases j with
        | zero => exact zero
        | succ j => exact (not_congr (step j)).1 (h2 j (by omega))

end Sys2Proof.Machine
end

