-- ==== Sys2Proof/Laws/Window.lean ====
section
/-! SUPPORT. The window engine: what closing, opening and the assignment of a verdict do (03 R61, R62, R68). -/

namespace Sys2Proof.Machine

/-- The map entry of a group classified with this measure. -/
def entryOf (img : Image) (j : Nat × Option Measure) : MapEntry :=
  classify img.header (img.groupAt j.1) (groupPins img.livePins j.1) j.2

/-- The groups classified in order, each with its measure: their verdicts assigned. -/
def judgeAll (img : Image) (jobs : List (Nat × Option Measure)) (w : WinState) : WinState :=
  jobs.foldl (fun v j => assignVerdict img.livePins j.1 (entryOf img j) v) w

/-- The same groups as the trigger unit gets them. -/
def namesOf (img : Image) (jobs : List (Nat × Option Measure)) : List Classified :=
  jobs.map fun j => { group := j.1, start := (img.groupAt j.1).start, verdict := (entryOf img j).verdict }

/-- Assigning verdicts reads and changes neither cursor nor open-window set. -/
theorem judgeAll_with (img : Image) (jobs : List (Nat × Option Measure)) (w : WinState) (c : Nat) (o : List WinEntry) :
    judgeAll img jobs { w with cursor := c, openSet := o } = { judgeAll img jobs w with cursor := c, openSet := o } := by
  induction jobs generalizing w with
  | nil => rfl
  | cons j jobs ih => exact ih (assignVerdict img.livePins j.1 (entryOf img j) w)

theorem judgeAll_keeps (img : Image) (jobs : List (Nat × Option Measure)) (w : WinState) :
    (judgeAll img jobs w).cursor = w.cursor ∧ (judgeAll img jobs w).openSet = w.openSet := by
  have h := judgeAll_with img jobs w w.cursor w.openSet
  exact ⟨(congrArg WinState.cursor h :), (congrArg WinState.openSet h :)⟩

theorem judgeAll_cursor (img : Image) (jobs : List (Nat × Option Measure)) (w : WinState) (c : Nat) :
    judgeAll img jobs { w with cursor := c } = { judgeAll img jobs w with cursor := c } := by
  rw [judgeAll_with img jobs w c w.openSet, ← (judgeAll_keeps img jobs w).2]

theorem closeFold_eq (img : Image) (l : List WinEntry) (w : WinWork) :
    l.foldl (fun acc e => classifyGroup img e.group (img.groupAt e.group) (some e.measure) acc) w
      = { win := judgeAll img (l.map fun e => (e.group, some e.measure)) w.win
          classified := w.classified ++ namesOf img (l.map fun e => (e.group, some e.measure)) } := by
  induction l generalizing w with
  | nil => simp [judgeAll, namesOf]
  | cons e l ih => rw [List.foldl_cons, ih]; simp [classifyGroup, judgeAll, namesOf, entryOf]

/-- Step 1: the ended entries leave and are classified, the others stay (03 R61). -/
theorem closeEnded_eq (img : Image) (depth : Nat) (w : WinState) :
    let jobs := (w.openSet.filter (WinEntry.ended img depth)).map fun e => (e.group, some e.measure)
    closeEnded img depth w
      = { win := { judgeAll img jobs w with openSet := w.openSet.filter fun e => !WinEntry.ended img depth e }
          classified := namesOf img jobs } := by
  intro jobs
  unfold closeEnded
  simp only
  rw [closeFold_eq, judgeAll_with img _ w w.cursor]
  simp only [List.nil_append, jobs]
  congr 2
  exact (judgeAll_keeps img jobs w).1.symm

/-- The group list from an index on begins with the group at that index. -/
theorem groupAt_of_drop {img : Image} {i : Nat} {g : GroupRec} {gs : List GroupRec} (h : g :: gs = img.liveGroups.drop i) :
    img.groupAt i = g ∧ gs = img.liveGroups.drop (i + 1) := by
  constructor
  · have h0 : img.liveGroups[i]? = some g := by
      have := congrArg (fun l => l[0]?) h; simpa using this.symm
    have : img.groups[i]? = some g := by
      unfold Image.liveGroups at h0
      rw [List.getElem?_take] at h0; split at h0
      · exact h0
      · simp at h0
    simp [Image.groupAt, this]
  · have := congrArg (List.drop 1) h; simpa [Nat.add_comm] using this

/-- Step 2: the groups whose start is reached are opened, or classified without a measure when jumped, in index order, and
the cursor passes them (03 R62). -/
theorem openReached_eq (img : Image) (depth : Nat) (net : List Int) (gs : List GroupRec) (i : Nat) (w : WinWork)
    (hg : gs = img.liveGroups.drop i) (hc : w.win.cursor = i) :
    let k := (gs.takeWhile fun g => decide (g.start ≤ depth)).length
    let passed := List.range' i k
    let ends : Nat → Bool := fun i => decide ((img.groupAt i).windowEnd ≤ depth)
    let jobs : List (Nat × Option Measure) := (passed.filter ends).map fun i => (i, none)
    openReached img depth net gs i w
      = ({ win := { judgeAll img jobs w.win with cursor := i + k }, classified := w.classified ++ namesOf img jobs },
         (passed.filter fun i => !ends i).map fun i => openEntry i (img.groupAt i) net) := by
  induction gs generalizing i w with
  | nil => simp [openReached, judgeAll, namesOf, ← hc]
  | cons g gs ih =>
    obtain ⟨h1, h2⟩ := groupAt_of_drop hg
    simp only [openReached]
    by_cases hs : g.start ≤ depth
    · simp only [hs, if_true, List.takeWhile_cons_of_pos, decide_true, List.length_cons, List.range'_succ]
      by_cases he : g.windowEnd ≤ depth
      · simp only [he, if_true]
        rw [ih (i + 1) _ h2 rfl]
        simp only [List.filter_cons, h1, he, decide_true, if_true, Bool.not_true, List.map_cons]
        congr 1
        congr 1
        · simp only [classifyGroup]
          show ({ judgeAll img _ { assignVerdict img.livePins i _ w.win with cursor := i + 1 } with
            cursor := _ } : WinState) = _
          rw [judgeAll_cursor]
          simp only [judgeAll, List.foldl_cons, entryOf, h1]
          congr 1; omega
        · simp [namesOf, classifyGroup, entryOf, h1]
      · simp only [he, if_false]
        rw [ih (i + 1) _ h2 rfl]
        simp only [List.filter_cons, h1, he, decide_false, Bool.not_false, if_true, List.map_cons, Bool.false_eq_true,
          if_false]
        rw [judgeAll_cursor]
        congr 3; omega
    · simp [hs, judgeAll, namesOf, ← hc]

/-- An assignment writes the entry to the pins of its group alone (03 R68). -/
theorem assignMap_get (g : Nat) (e : MapEntry) (ps : List PinRec) (m : List MapEntry) (j : Nat) (p : PinRec)
    (old : MapEntry) (hp : ps[j]? = some p) (hm : m[j]? = some old) :
    (assignMap g e ps m)[j]? = some (if p.assign = .group g then e else old) := by
  induction ps generalizing m j with
  | nil => simp at hp
  | cons q ps ih =>
    cases m with
    | nil => simp at hm
    | cons a m =>
      cases j with
      | zero => simp at hp hm; subst hp; subst hm; rfl
      | succ j => exact ih m j (by simpa using hp) (by simpa using hm)

/-- One failing entry for every pin of the group, in pin order (03 R68). -/
theorem failEntries_eq (g : Nat) (e : MapEntry) (ps : List PinRec) (i : Nat) :
    failEntries g e i ps = ((ps.zipIdx i).filter fun p => decide (p.1.assign = Assignment.group g)).map fun p =>
      { pin := p.2, row := p.1.row, col := p.1.col, verdict := e.verdict, estimate := e.estimate } := by
  induction ps generalizing i with
  | nil => rfl
  | cons p ps ih =>
    simp only [failEntries, List.zipIdx_cons, List.filter_cons]
    by_cases h : p.assign = .group g <;> simp [h, ih]

theorem failEntries_length (g : Nat) (e : MapEntry) (ps : List PinRec) (i : Nat) :
    (failEntries g e i ps).length = groupPins ps g := by
  induction ps generalizing i with
  | nil => rfl
  | cons p ps ih =>
    simp only [failEntries, groupPins, List.filter_cons]
    by_cases h : p.assign = .group g <;> simp [h, ih, groupPins]

/-- The mark of R65 in channels. -/
theorem overrangeHits_eq (channels : BitVec 16) (o : BitVec 12) :
    decide (channels &&& o.zeroExtend 16 ≠ 0) = (List.range 12).any fun c => channels.getLsbD c && o.getLsbD c := by
  rw [Bool.eq_iff_iff]
  simp only [decide_eq_true_eq, List.any_eq_true, List.mem_range, Bool.and_eq_true]
  constructor
  · intro h
    by_contra hc
    apply h
    apply BitVec.eq_of_getLsbD_eq
    intro i hi
    rw [BitVec.getLsbD_and, BitVec.getLsbD_setWidth]
    by_cases h12 : i < 12
    · cases h1 : channels.getLsbD i <;> cases h2 : o.getLsbD i <;> simp
      exact (hc ⟨i, h12, h1, h2⟩).elim
    · rw [BitVec.getLsbD_of_ge o i (by omega)]; simp
  · rintro ⟨c, h1, h2, h3⟩ h4
    have := congrArg (fun b : BitVec 16 => b.getLsbD c) h4
    rw [BitVec.getLsbD_and, BitVec.getLsbD_setWidth, h2, h3] at this; simp at this; omega

end Sys2Proof.Machine
end

