-- ==== Sys2Proof/Tests/Slice0.lean ====
section
/-! SUPPORT. Tests: well-formedness, values the spec works out, one step of some rows, and for every statement with
hypotheses a state and operands that meet them. -/

namespace Sys2Proof.Machine

/-! ### Small states -/

/-- After the scan. -/
def scanned : State := { store := { scanRunning := false } }

/-- The decoder holds a command. -/
def holding (n : Byte) (args : List Byte) (s : State) : State :=
  { s with dec := { s.dec with hand := some { tag := 0x5A#8, number := n, args := args } } }

def cmd (n : Byte) (args : List Byte) : Command := { tag := 0x5A#8, number := n, args := args }

def inPhase (p : Phase) (s : State) : State := { s with seq := { s.seq with phase := p } }

def withOp (op : NvOp) (s : State) : State := { s with store := { s.store with nvOp := some op } }

def portsUp (s : State) : State := { s with sns := { s.sns with port := .up }, ctl := { s.ctl with port := .up } }

def withActive (img : Image) (s : State) : State := { s with load := { s.load with active := .ready img, activeSlot := some 3 } }

/-- The slot holds an image with its check and is VALID. -/
def withSlot (n : Nat) (img : Image) (s : State) : State :=
  { s with store := { s.store with slots := s.store.slots.set n (.image img (imageCheck img))
                                   directory := s.store.directory.set n img.entry } }

/-- The header of 01 section 1.8. -/
def header18 : Header :=
  { profileId := 2017, channelCount := 6, contactDepth := 3000, seatMin := 5200, seatMax := 5600, seatForce := 6000
    crushLimit := 12000, backlash := 40, gapTolerance := 2, minSamples := 4, floor := 40, groupCount := 3
    pinCount := 10 }

/-- The groups of 01 section 1.8. -/
def groups18 : List GroupRec :=
  [{ start := 3400, length := 600, channels := 0x0003#16, perPinMin := 120, perPinMax := 280 },
   { start := 3800, length := 700, channels := 0x0018#16, perPinMin := 160, perPinMax := 320 },
   { start := 4600, length := 500, channels := 0x0024#16, perPinMin := 140, perPinMax := 300 }]

def pin (r c : Nat) (a : Assignment) : PinRec := { row := r, col := c, assign := a }

/-- The pins of 01 section 1.8. -/
def pins18 : List PinRec :=
  [pin 0 0 (.group 0), pin 0 1 (.group 0), pin 0 2 (.group 0), pin 0 3 (.group 0), pin 1 0 (.group 1),
   pin 1 1 (.group 1), pin 1 2 (.group 1), pin 2 0 (.group 2), pin 2 1 (.group 2), pin 2 2 .excluded]

/-- The profile of 01 section 1.8. -/
def profile18 : Image := { header := header18, groups := groups18, pins := pins18 }

/-- A SAMPLE body: sequence number, overrange bytes, depth, and readings that are all 0 (R180). -/
def sampleBody (seq : Byte) (depth : Nat) : List Byte := seq :: 0 :: 0 :: (beBytes 2 depth ++ List.replicate 26 0)

def sampleCheck (body : List Byte) : Word16 := frameCheck 0x01#8 body

/-- The command byte `n` without arguments, to a destination. -/
def commandBody (dest n : Byte) : List Byte := [dest, 0x5A#8, n]

/-! ### Well-formedness: one ill-formed term for each check -/

theorem test_wf_sample_too_long : (Instr.sampleFrame (List.replicate 256 0) 0).wellFormed = false := by decide +kernel
theorem test_wf_command_too_long : (Instr.commandFrame (List.replicate 256 0) 0).wellFormed = false := by decide +kernel
theorem test_wf_tooLong_too_long : (Instr.tooLong (List.replicate 256 0) 0).wellFormed = false := by decide +kernel
theorem test_wf_freeze_too_long : (Instr.captureFreeze (List.replicate 256 0) 0).wellFormed = false := by decide +kernel
theorem test_wf_forward_too_long : (Instr.forwardFrame ⟨9, List.replicate 256 0, 0⟩).wellFormed = false := by decide +kernel
theorem test_wf_forward_class : (Instr.forwardFrame ⟨1, [], 0⟩).wellFormed = false := by decide
theorem test_wf_return_too_long : (Instr.returnFrame ⟨9, List.replicate 256 0, 0⟩).wellFormed = false := by decide +kernel
theorem test_wf_return_class : (Instr.returnFrame ⟨2, [], 0⟩).wellFormed = false := by decide
theorem test_wf_bad_too_long : (Instr.controllerPortBadFrame ⟨9, List.replicate 256 0, 0⟩).wellFormed = false := by decide +kernel
theorem test_wf_good : (Instr.sampleFrame (List.replicate 255 0) 0).wellFormed = true
    ∧ (Instr.forwardFrame ⟨2, [], 0⟩).wellFormed = true ∧ (Instr.returnFrame ⟨1, [], 0⟩).wellFormed = true := by decide +kernel

/-! ### Values the spec works out -/

/-- The check value of the CRC of R164 over the nine digits 1-9. -/
theorem test_crc_digits : crc16 [0x31, 0x32, 0x33, 0x34, 0x35, 0x36, 0x37, 0x38, 0x39] = 0x29B1#16 := by decide +kernel

/-- 01 section 1.8: the image validates OK. -/
theorem test_validate_example : profile18.validate = none := by decide +kernel
/-- 01 section 1.9, step 1: a cleared buffer fails V-CHANNELS. -/
theorem test_validate_cleared : Image.cleared.validate = some { check := 1, item := none } := by decide +kernel
/-- Section 1.9, step 2: the header alone fails V-WINDOW at group 0. -/
theorem test_validate_header_only :
    ({ profile18 with groups := List.replicate 96 {}, pins := List.replicate 640 {} } : Image).validate
      = some { check := 5, item := some 0 } := by decide +kernel
/-- Section 1.9, step 3: no pins yet, V-PINGROUP at pin 0. -/
theorem test_validate_no_pins :
    ({ profile18 with pins := List.replicate 640 {} } : Image).validate = some { check := 11, item := some 0 } := by decide +kernel
/-- Section 1.9, step 5: group 2 without a pin, as its n_2 of 0 says, fails V-EMPTYGROUP at group 2 (log 29). -/
theorem test_validate_empty_group :
    ({ profile18 with pins := (pins18.set 7 (pin 2 0 (.group 1))).set 8 (pin 2 1 (.group 1)) } : Image).validate
      = some { check := 12, item := some 2 } := by decide +kernel
/-- Section 1.9, step 6: a repeated label fails V-LABEL at pin 9. -/
theorem test_validate_label :
    ({ profile18 with pins := pins18.set 9 (pin 2 1 .excluded) } : Image).validate = some { check := 13, item := some 9 } := by
  decide +kernel
/-- Section 1.9: seat depth minimum 4,400 fails V-SEAT at group 1. -/
theorem test_validate_seat :
    ({ profile18 with header := { header18 with seatMin := 4400 } } : Image).validate = some { check := 9, item := some 1 } := by
  decide +kernel

/-- 03 section 3.2: the baselines 121 and -2, floored. -/
theorem test_baseline_floor :
    baselineOf (List.replicate 31 { depth := 0, raw := [0] } ++ [{ depth := 0, raw := [3875] }]) 0 = 121
    ∧ baselineOf (List.replicate 31 { depth := 0, raw := [0] } ++ [{ depth := 0, raw := [-45] }]) 0 = -2 := by decide
/-- 03 section 3.6: a rise of 844 over 3 pins is 281, PASS under 320 and HIGH under 280. -/
theorem test_estimate_and_verdict :
    classify header18 (groups18.getD 1 {}) 3 (some { rise := 844, count := 37, interrupted := false })
      = { verdict := .pass, estimate := some 281 }
    ∧ classify header18 { groups18.getD 1 {} with perPinMax := 280 } 3 (some { rise := 844, count := 37, interrupted := false })
      = { verdict := .high, estimate := some 281 } := by decide
/-- 09 section 9.9: the class of a sequence number. -/
theorem test_sequence_classes :
    gapOf (some 254#8) 254#8 = some 0 ∧ gapOf (some 255#8) 2#8 = some 3 ∧ gapOf (some 4#8) 3#8 = none
    ∧ gapOf (some 4#8) 250#8 = none ∧ gapOf (some 4#8) 5#8 = some 1 ∧ gapOf none 77#8 = some 0 := by decide
/-- 10 section 10.6: the values applied. -/
theorem test_setting_clamps :
    clampSetting .stallTimeout 400 = 255 ∧ clampSetting .alarmMask 200000 = 200000
    ∧ clampSetting .alarmMask 724288 = 200000 ∧ clampSetting .strokeLimit 0 = 1 ∧ clampSetting .postCount 512 = 511 := by
  decide
/-- 05: a base of 3,650 aligned down for the spans 16, 256 and 4,096. -/
theorem test_trigger_alignment :
    3650 - 3650 % spanOf 1 = 3648 ∧ 3650 - 3650 % spanOf 2 = 3584 ∧ 3650 - 3650 % spanOf 3 = 0 := by decide

/-! ### One step -/

/-- ARM while the scan runs is refused BUSY and numbers no stroke (R140, R184). -/
theorem test_step_scan_busy :
    ∃ t, step { holding 1 [] {} with pending := [.arm] } = .next t ∧ t.seq.strokeNumber = 0 ∧ t.dec.hand = none :=
  ⟨_, rfl, by decide⟩
/-- A SET SETTING 2 with value 400 in the decoder's hand sets 255 (10 section 10.6). -/
theorem test_step_set_setting :
    ∃ t, exec .setSetting (holding 34 [0x20, 0x01, 0x90, 0x00] scanned) = .next t ∧ t.dec.stallTimeout = 255 :=
  ⟨_, rfl, by decide⟩
/-- ARM with the profile of 1.8 numbers stroke 1 and gives ten map entries, one EXCLUDED. -/
theorem test_step_arm :
    ∃ t, exec .arm (holding 1 [] (withActive profile18 scanned)) = .next t ∧ t.seq.phase = .armed
      ∧ t.seq.strokeNumber = 1 ∧ t.win.map.length = 10 ∧ verdictCount t.win.map .excluded = 1 :=
  ⟨_, rfl, by decide⟩
/-- LOCK RANGE 8-15 inverted: lower 8, upper 15, invert 1 (10 R183, the fields most significant bit first). -/
theorem test_parse_lockRange : parseLockRange [8, 15, 0x80] = some (8, 15, true) := by decide
/-- A slot number is the five high bits of its byte (10 R183). -/
theorem test_parse_slot : parseSlot [0xB8] = some 23 ∧ parseSlot [0xC0] = none ∧ parseSlot [] = none := by decide
/-- The enable of a SET TRIGGER is a choice coded by its place: 0 is ON, 1 is OFF (10 R183; log 15). -/
theorem test_parse_trigger_enable :
    (parseTrigger [0, 0, 0, 0, 0, 0]).map (fun a => a.2.enable) = some true
      ∧ (parseTrigger [0, 0, 0, 0, 0, 4]).map (fun a => a.2.enable) = some false := by decide
/-- A frame as bytes: class, length, body, check, most significant byte first (09 R179). -/
theorem test_frame_bytes : frameBytes ⟨0x82#8, [0xAA#8, 0xBB#8], 0x1234#16⟩ = [0x82, 2, 0xAA, 0xBB, 0x12, 0x34] := by
  decide
/-- A good READ STATUS frame to the unit's own address joins the decoder's hand. -/
theorem test_step_command_frame :
    ∃ t, exec (.commandFrame (commandBody 0 31) (frameCheck 0x02#8 (commandBody 0 31))) (portsUp scanned) = .next t
      ∧ t.dec.hand = some (cmd 31 []) := ⟨_, rfl, by decide +kernel⟩
/-- An empty queue leaves the state as it is (log 1). -/
theorem test_step_idle : step State.reset = .next State.reset := rfl

/-! ### Witnesses: a state and operands that meet the hypotheses of each statement -/

theorem takes_holding {s : State} (n : Byte) (args : List Byte) (hl : s.live = true) (hs : s.store.scanRunning = false) :
    (holding n args s).takes n.toNat (cmd n args) := ⟨⟨hl, rfl, rfl⟩, hs⟩

theorem test_witness_StepRunsFrontCommand :
    ({ pending := [.arm] } : State).pending = .arm :: [] ∧ State.reset.pending = [] := by decide

/-- A running stroke with the window of group 0 open and one record behind it, for the invariants. -/
def running : State :=
  { scanned with
    seq := { phase := .engage, strokeNumber := 2, highWater := 3500, stallTimer := some 20 }
    rcd := { history := [{ strokeNumber := 1, tag := none, slot := 3, profileId := 2017, outcome := .pass, reason := none
                           seatDepth := none, peak := none, counts := countsOf [], failTotal := 0, failList := []
                           missing := 0, stale := 0, sampleCount := 1 }] }
    load := { active := .ready profile18, activeSlot := some 3 }
    win := { openSet := [{ group := 0, l0 := 10, peak := 20, count := 3, interrupted := false }], cursor := 1
             map := profile18.freshMap }
    pending := [.stall] }

theorem test_witness_StepKeepsLinesFollowPhase : LinesFollowPhase running ∧ ∃ t, step running = .next t :=
  ⟨⟨by decide, by decide, by decide, by decide⟩, _, rfl⟩
theorem test_witness_StepKeepsLedger : LedgerBalances running ∧ ∃ t, step running = .next t :=
  ⟨⟨⟨0, by decide, by decide⟩, by decide, by decide⟩, _, rfl⟩
theorem test_witness_StepKeepsHistoryOrdered : HistoryOrdered running ∧ ∃ t, step running = .next t :=
  ⟨⟨by decide, by decide, by decide, by decide⟩, _, rfl⟩
theorem test_witness_StepKeepsProfilesValidated : ProfilesValidated running ∧ ∃ t, step running = .next t := by
  refine ⟨⟨fun c hc => ?_, fun slot h => ?_, test_validate_example, trivial⟩, _, rfl⟩
  · have e : c = .erased := List.eq_of_mem_replicate hc
    subst e; intro img h; cases h
  · cases h
theorem test_witness_StepKeepsTablesFollowPhase : TablesFollowPhase running ∧ ∃ t, step running = .next t :=
  ⟨⟨fun _ => rfl, fun h => absurd h (by decide), by decide, by decide, by decide⟩, _, rfl⟩
/-- No slot of `running` holds an image. -/
theorem running_slots_empty (img : Image) (k : Word16) : SlotContent.image img k ∉ running.store.slots := fun h =>
  SlotContent.noConfusion (List.eq_of_mem_replicate h)
/-- Each bound on the fields of `running` is a comparison of numerals; the one over the slots is empty. -/
theorem running_within_bounds : WithinBounds running := by
  unfold WithinBounds
  repeat' apply And.intro
  all_goals first
    | exact fun img k h => (running_slots_empty img k h).elim
    | decide +kernel
theorem running_windows : WindowsFollowStroke running := by
  refine ⟨by decide, by decide, by decide, by decide, by decide⟩
theorem test_witness_StepKeepsWithinBounds :
    WithinBounds running ∧ LinesFollowPhase running ∧ TablesFollowPhase running ∧ ProfilesValidated running
      ∧ WindowsFollowStroke running ∧ ∃ t, step running = .next t :=
  ⟨running_within_bounds, test_witness_StepKeepsLinesFollowPhase.1, test_witness_StepKeepsTablesFollowPhase.1,
   test_witness_StepKeepsProfilesValidated.1, running_windows, _, rfl⟩
theorem test_witness_StopLatchClearedOnlyBy :
    ∃ t, ({ line := { stop := true } } : State).line.stop = true
      ∧ exec .powerOff { line := { stop := true } } = .next t ∧ t.line.stop = false := ⟨_, rfl, rfl, rfl⟩

theorem test_witness_GeneralChecksRefuse :
    Instr.arm.commandNumber = some 1 ∧ (holding 1 [] {}).holds 1 (cmd 1 []) ∧ argumentsFit 1 [] = true
      ∧ State.reset.store.scanRunning = true ∧ argumentsFit 1 (List.replicate 17 0) = false :=
  ⟨rfl, ⟨rfl, rfl, rfl⟩, by decide, rfl, by decide⟩
theorem test_witness_HandOverAndRaise :
    let full (n : Nat) : State := { portsUp {} with tx := { queue := List.replicate n (.response 0 1 .ok []) } }
    ((full 31).ctl.port = .up ∧ (full 31).tx.queue.length < 32) ∧ 32 ≤ (full 32).tx.queue.length
      ∧ State.reset.ctl.port ≠ .up ∧ Cause.stale ≠ .drop := by decide
theorem test_witness_AnswerThenNextCommand :
    let waits (n : Byte) : State := { ctl := { waitList := [cmd n []] } }
    State.reset.ctl.waitList = [] ∧ (waits 1).ctl.waitList = cmd 1 [] :: [] ∧ 1 ≤ (1#8).toNat ∧ (35#8).toNat ≤ 35
      ∧ (0#8).toNat = 0 ∧ 35 < (36#8).toNat := by decide

theorem test_witness_ArmChecksThenBegins :
    (holding 1 (List.replicate 16 0) scanned).takes 1 (cmd 1 (List.replicate 16 0))
      ∧ (cmd 1 (List.replicate 16 0)).args.length ≤ 16 := ⟨takes_holding 1 _ rfl rfl, by decide⟩
theorem test_witness_DisarmByPhase :
    (∀ p, (holding 2 [] (inPhase p scanned)).takes 2 (cmd 2 []) ∧ (holding 2 [] (inPhase p scanned)).seq.phase = p)
      ∧ Phase.held.inStroke = true := ⟨fun _ => ⟨takes_holding 2 _ rfl rfl, rfl⟩, rfl⟩
theorem test_witness_ResumeReturnsToHeldFrom :
    let s : State := { scanned with seq := { phase := .held, heldFrom := some .engage, holdDepth := some 65535 } }
    (holding 3 [] s).takes 3 (cmd 3 []) ∧ s.seq.phase = .held ∧ s.seq.heldFrom = some .engage
      ∧ s.seq.holdDepth = some 65535 ∧ (holding 3 [] scanned).takes 3 (cmd 3 []) ∧ scanned.seq.phase ≠ .held :=
  ⟨takes_holding 3 _ rfl rfl, rfl, rfl, rfl, takes_holding 3 _ rfl rfl, by decide⟩
theorem test_witness_ClearStopByPhase : (holding 4 [] {}).holds 4 (cmd 4 []) ∧ (cmd 4 []).args = [] :=
  ⟨⟨rfl, rfl, rfl⟩, rfl⟩

def headerArgs : List Byte := ((List.replicate 19 0).set 8 1).set 11 1
theorem test_witness_EditCommandsWriteBuffer :
    (holding 5 [] scanned).takes 5 (cmd 5 []) ∧ (holding 7 headerArgs scanned).takes 7 (cmd 7 headerArgs)
      ∧ (parseHeader headerArgs).isSome = true
      ∧ (holding 8 (190 :: List.replicate 10 0) scanned).takes 8 (cmd 8 (190 :: List.replicate 10 0))
      ∧ (parsePutGroup (190 :: List.replicate 10 0)).map Prod.fst = some 95
      ∧ (holding 10 [0xFF, 0xFF, 0x80] scanned).takes 10 (cmd 10 [0xFF, 0xFF, 0x80])
      ∧ parseCounts [0xFF, 0xFF, 0x80] = some (127, 1023) :=
  ⟨takes_holding 5 _ rfl rfl, takes_holding 7 _ rfl rfl, by decide +kernel, takes_holding 8 _ rfl rfl,
   by decide +kernel, takes_holding 10 _ rfl rfl, by decide +kernel⟩
theorem test_witness_PutPinsReplacesRun :
    let one : List Byte := [0x9F, 0xC0, 0, 0]
    let two : List Byte := [0x9F, 0xC0, 0, 0, 0, 0]
    ((holding 9 one scanned).takes 9 (cmd 9 one) ∧ parsePutPins one = some (639, [pin 0 0 (.group 0)])
      ∧ scanned.store.buffer.pins.length = 640 ∧ scanned.bufferHeld = false ∧ 639 + 1 ≤ 640)
    ∧ ((holding 9 two scanned).takes 9 (cmd 9 two)
      ∧ parsePutPins two = some (639, [pin 0 0 (.group 0), pin 0 0 (.group 0)]) ∧ 640 < 639 + 2)
    ∧ (withOp (.editLoad 0) scanned).bufferHeld = true :=
  ⟨⟨takes_holding 9 _ rfl rfl, by decide +kernel, by decide +kernel, rfl, by decide⟩,
   ⟨takes_holding 9 _ rfl rfl, by decide +kernel, by decide⟩, rfl⟩
theorem test_witness_ValidateAndReadEditAnswer :
    (holding 11 [] scanned).takes 11 (cmd 11 []) ∧ (holding 14 [0, 0] scanned).takes 14 (cmd 14 [0, 0])
      ∧ parseReadEdit [0, 0] = some .header ∧ parseReadEdit [0x45, 0xF0] = some (.group 95)
      ∧ parseReadEdit [0xA7, 0xF8] = some (.pins 639 8) :=
  ⟨takes_holding 11 _ rfl rfl, takes_holding 14 _ rfl rfl, by decide, by decide, by decide⟩

/-- Slot 23 VALID, slot 1 CORRUPT, the others EMPTY. -/
def slotsMixed : State :=
  let s := withSlot 23 profile18 scanned
  { s with store := { s.store with directory := s.store.directory.set 1 .corrupt } }
theorem test_witness_LoadCommandsStart :
    (∀ slot, (holding 6 [slot] slotsMixed).takes 6 (cmd 6 [slot]) ∧ (holding 20 [slot] slotsMixed).takes 20 (cmd 20 [slot]))
      ∧ parseSlot [0xB8] = some 23 ∧ slotsMixed.slotState 23 = .valid 2017 3 10 ∧ parseSlot [8] = some 1
      ∧ slotsMixed.slotState 1 = .corrupt ∧ parseSlot [0] = some 0 ∧ slotsMixed.slotState 0 = .empty
      ∧ slotsMixed.nvBusy = false ∧ (withOp (.editLoad 0) slotsMixed).nvBusy = true :=
  ⟨fun _ => ⟨takes_holding 6 _ rfl rfl, takes_holding 20 _ rfl rfl⟩, by decide, by decide, by decide, by decide, by decide,
   by decide, rfl, rfl⟩
theorem test_witness_WritesCheckThenBegin :
    parseSlot [0xB8] = some 23 ∧ (holding 12 [0xB8] scanned).takes 12 (cmd 12 [0xB8])
      ∧ (holding 13 [0xB8] scanned).takes 13 (cmd 13 [0xB8]) :=
  ⟨by decide, takes_holding 12 _ rfl rfl, takes_holding 13 _ rfl rfl⟩
theorem test_witness_ReadDirectoryAnswers :
    (holding 15 [0xBE] scanned).takes 15 (cmd 15 [0xBE]) ∧ parseDirectory [0xBE] = some (23, 6)
      ∧ scanned.store.directory.length = 24 := ⟨takes_holding 15 _ rfl rfl, by decide, by decide⟩
theorem test_witness_LockAndProtectCommands :
    (holding 16 [8, 15, 0x80] scanned).takes 16 (cmd 16 [8, 15, 0x80]) ∧ parseLockRange [8, 15, 0x80] = some (8, 15, true)
      ∧ (holding 17 [] scanned).takes 17 (cmd 17 []) ∧ (holding 18 [0xB8] scanned).takes 18 (cmd 18 [0xB8])
      ∧ parseSlot [0xB8] = some 23 ∧ (holding 19 [] scanned).takes 19 (cmd 19 []) :=
  ⟨takes_holding 16 _ rfl rfl, by decide, takes_holding 17 _ rfl rfl, takes_holding 18 _ rfl rfl, by decide,
   takes_holding 19 _ rfl rfl⟩

theorem test_witness_VerdictAndRecordReadout :
    (holding 21 [0xFF, 0xFF, 0xC0] scanned).takes 21 (cmd 21 [0xFF, 0xFF, 0xC0])
      ∧ parseRun [0xFF, 0xFF, 0xC0] = some (1023, 255)
      ∧ (holding 28 [0, 0, 0, 1, 0x80] { running with pending := [] }).takes 28 (cmd 28 [0, 0, 0, 1, 0x80])
      ∧ parseRecord [0, 0, 0, 1, 0x80] = some (1, 8) ∧ (∃ r ∈ running.rcd.history, r.strokeNumber = 1)
      ∧ (∀ r ∈ scanned.rcd.history, r.strokeNumber ≠ 1) :=
  ⟨takes_holding 21 _ rfl rfl, by decide, takes_holding 28 _ rfl rfl, by decide, by decide, by decide⟩
theorem test_witness_TriggerCommands :
    (holding 22 [0xC0, 0, 0, 0, 0, 0] scanned).takes 22 (cmd 22 [0xC0, 0, 0, 0, 0, 0])
      ∧ (parseTrigger [0xC0, 0, 0, 0, 0, 0]).map Prod.fst = some 3 ∧ scanned.trig.length = 4
      ∧ (holding 23 [] scanned).takes 23 (cmd 23 []) ∧ (holding 24 [] scanned).takes 24 (cmd 24 []) :=
  ⟨takes_holding 22 _ rfl rfl, by decide, by decide, takes_holding 23 _ rfl rfl, takes_holding 24 _ rfl rfl⟩
theorem test_witness_CaptureCommands :
    (holding 25 [] scanned).takes 25 (cmd 25 []) ∧ (holding 26 [] scanned).takes 26 (cmd 26 [])
      ∧ (holding 27 [0, 0, 0] scanned).takes 27 (cmd 27 [0, 0, 0]) ∧ parseRun [0, 0, 0] = some (0, 0) :=
  ⟨takes_holding 25 _ rfl rfl, takes_holding 26 _ rfl rfl, takes_holding 27 _ rfl rfl, by decide⟩
theorem test_witness_CaptureUnitByState :
    let counts (n : Nat) : State := { cap := { state := .counting, countdown := n } }
    scanned.cap.state = .idle ∧ scanned.dec.postCount ≠ 0 ∧ ({ dec := { postCount := 0 } } : State).dec.postCount = 0
      ∧ (counts 1).cap.state = .counting ∧ (counts 1).cap.countdown = 1 ∧ 1 < (counts 2).cap.countdown
      ∧ ({ cap := { state := .frozen } } : State).cap.state ≠ .idle ∧ (counts 1).cap.ring.length ≤ 512 := by decide
theorem test_witness_ReadPendingServesHighest :
    (holding 29 [] scanned).takes 29 (cmd 29 []) ∧ scanned.evt.pending = 0
      ∧ CauseSet.has 0x60000#19 .drop = true
      ∧ (∀ y : Cause, CauseSet.has 0x60000#19 y = true → Cause.drop.code ≤ y.code) :=
  ⟨takes_holding 29 _ rfl rfl, rfl, by decide, fun y h => by cases y <;> revert h <;> decide⟩
theorem test_witness_ClearPendingEmptiesSet :
    (holding 30 [] {}).holds 30 (cmd 30 []) ∧ State.reset.evt.alarmMode = .pending
      ∧ ({ evt := { alarmMode := .safety } } : State).evt.alarmMode = .safety := ⟨⟨rfl, rfl, rfl⟩, rfl, rfl⟩
theorem test_witness_StatusAndIdentAnswer :
    (holding 31 [] {}).holds 31 (cmd 31 []) ∧ (holding 32 [] {}).holds 32 (cmd 32 []) :=
  ⟨⟨rfl, rfl, rfl⟩, ⟨rfl, rfl, rfl⟩⟩
theorem test_witness_GetSettingAnswers :
    (holding 33 [0xA0] scanned).takes 33 (cmd 33 [0xA0]) ∧ parseGetSetting [0xA0] = some .annotation :=
  ⟨takes_holding 33 _ rfl rfl, by decide⟩
theorem test_witness_SetSettingClampsAndApplies :
    (holding 34 [0x6F, 0xFF, 0xFF, 0xF0] scanned).takes 34 (cmd 34 [0x6F, 0xFF, 0xFF, 0xF0])
      ∧ parseSetSetting [0x6F, 0xFF, 0xFF, 0xF0] = some (.eventMask, 16777215) := ⟨takes_holding 34 _ rfl rfl, by decide⟩
theorem test_witness_ResetUnitResets :
    (holding 35 [] scanned).takes 35 (cmd 35 []) ∧ scanned.seq.phase = .idle ∧ scanned.nvBusy = false
      ∧ (inPhase .aborted scanned).seq.phase ≠ .idle ∧ (withOp .clearProtect scanned).nvBusy = true
      ∧ (portsUp scanned).ctl.port = .up := ⟨takes_holding 35 _ rfl rfl, rfl, rfl, by decide, rfl, rfl⟩

theorem test_witness_PowerAndNrst :
    ({ powered := false } : State).powered = false ∧ ({ nrstHigh := false } : State).nrstHigh = false
      ∧ State.reset.live = true ∧ State.reset.store.nvOp ≠ some (.protect 0)
      ∧ State.reset.store.nvOp ≠ some .clearProtect := by decide
theorem test_witness_LineLevels :
    State.reset.powered = true ∧ State.reset.nrstHigh = true ∧ ({ nrstHigh := false } : State).nrstHigh = false
      ∧ (CauseSet.has 0x400#19 .strokeFail = true ∧ CauseSet.has State.reset.evt.alarmMask .strokeFail = true)
      ∧ (∀ x : Cause, CauseSet.has 0x800#19 x = true → CauseSet.has State.reset.evt.alarmMask x = false) :=
  ⟨rfl, rfl, rfl, by decide, fun x h => by cases x <;> revert h <;> decide⟩
theorem test_witness_ScanJudgesSlots :
    State.reset.live = true ∧ State.reset.store.scanRunning = true ∧ State.reset.store.slots.length = 24
      ∧ (1#24).getLsbD 0 = true ∧ (1#24).getLsbD 23 = false
      ∧ (withSlot 23 profile18 {}).store.slots[23]? = some (.image profile18 (imageCheck profile18)) :=
  ⟨rfl, rfl, rfl, by decide, by decide, rfl⟩
theorem test_witness_WpFallAndRise :
    State.reset.live = true ∧ State.reset.wpHigh = true ∧ ∀ op, (withOp op scanned).store.nvOp = some op :=
  ⟨rfl, rfl, fun _ => rfl⟩

/-- The sensor port UP with an expected number. -/
def expecting (e : Option Byte) : State := { portsUp scanned with sns := { port := .up, expected := e } }
theorem test_witness_BadAndStaleSamples :
    (expecting (some 0)).live = true ∧ (expecting (some 0)).sns.port = .up
      ∧ badForward ⟨0x01#8, [], 0⟩ = true
      ∧ badForward ⟨0x01#8, sampleBody 128 100, sampleCheck (sampleBody 128 100)⟩ = false
      ∧ (expecting (some 0)).sns.expected = some 0 ∧ 128 ≤ ((readSample (sampleBody 128 100)).seq - 0#8).toNat := by
  decide +kernel
theorem test_witness_AcceptedSampleTakesSamplePath :
    badForward ⟨0x01#8, sampleBody 127 100, sampleCheck (sampleBody 127 100)⟩ = false
      ∧ (expecting none).sns.expected = none ∧ (expecting (some 0)).sns.expected = some 0
      ∧ ((readSample (sampleBody 127 100)).seq - 0#8).toNat = 127 := by decide +kernel

def sampleOf (depth : Nat) (v : Int) : Sample := { seq := 0, overrange := 0, depth := depth, raw := List.replicate 12 v }
theorem test_witness_SamplePhasesAndChecks :
    let s (p : Phase) (hw n : Nat) : State :=
      { withActive profile18 scanned with seq := { phase := p, highWater := hw, holdDepth := some 100, sampleCount := n } }
    let crush (v : Int) := crushFrom 12000 0 0 ((netForces (List.replicate 12 0) (sampleOf 0 v).raw).take 6)
    (s .engage 0 0).seq.phase.inStroke = true ∧ crush 12001 = some 0 ∧ crush 12000 = none
      ∧ 256 * 1024 < (s .engage 0 262144).seq.sampleCount + 1 ∧ (s .engage 0 262143).seq.sampleCount + 1 ≤ 256 * 1024
      ∧ 100 + 40 < (sampleOf 141 0).depth ∧ (sampleOf 140 0).depth ≤ 100 + 40 ∧ (s .held 100 0).seq.holdDepth = some 100
      ∧ (sampleOf 59 0).depth + 40 < (s .engage 100 0).seq.highWater ∧ (s .engage 100 0).seq.rePress = false
      ∧ (s .engage 100 0).seq.highWater ≤ (sampleOf 60 0).depth + 40
      ∧ (s .engage 100 0).seq.highWater < (sampleOf 101 0).depth := by decide
theorem test_witness_TareAndContact :
    let s (n : Nat) : State :=
      { withActive profile18 scanned with
        seq := { phase := .approach, tareRing := List.replicate n { depth := 1, raw := List.replicate 12 (-1) } } }
    (s 8).seq.phase = .approach ∧ (sampleOf 2999 0).depth < (s 8).profile.header.contactDepth
      ∧ (s 8).profile.header.contactDepth ≤ (sampleOf 3000 0).depth ∧ (s 7).seq.tareRing.length < 8
      ∧ 8 ≤ (s 8).seq.tareRing.length := by decide
theorem test_witness_SeatTestCases :
    let s (p : Phase) : State := { withActive profile18 scanned with seq := { phase := p } }
    let sum (v : Int) := seatSum 6 (netForces (List.replicate 12 0) (sampleOf 0 v).raw)
    (6000 : Int) ≤ sum 1000 ∧ sum 999 < (6000 : Int) ∧ (s .engage).seq.phase = .engage
      ∧ (s .seating).seq.phase = .seating ∧ (sampleOf 5199 0).depth < (s .seating).profile.header.seatMin
      ∧ (s .seating).profile.header.seatMin ≤ (sampleOf 5200 0).depth
      ∧ (s .seating).profile.header.seatMax < (sampleOf 5601 0).depth
      ∧ (sampleOf 5600 0).depth ≤ (s .seating).profile.header.seatMax := by decide
theorem test_witness_SeatTestCases_windows :
    let s : State := { running with dec := { stopOnFail := true } }
    let w := windowWork s.profile (sampleOf 4000 0) 0 (netForces s.seq.baselines (sampleOf 4000 0).raw) s.win
    s.seq.phase = .engage ∧ s.dec.stopOnFail = true ∧ (∃ c ∈ w.classified, c.verdict = .noData)
      ∧ running.dec.stopOnFail = false := by decide +kernel
theorem test_witness_NetForceClamped :
    ([0, -20] : List Int)[1]? = some (-20) ∧ ([0, 32767] : List Int)[1]? = some 32767
      ∧ netForces [-20, 5, 121] [32767, -32768, 1331] = [32767, -32768, 1210] := by decide
theorem test_witness_ClassificationOrder :
    0 ≤ ({ rise := 0, count := 4, interrupted := false } : Measure).rise ∧ 0 < 1
      ∧ (classify header18 (groups18.getD 0 {}) 4 (some { rise := 160, count := 4, interrupted := false })).verdict = .low
      ∧ (classify header18 (groups18.getD 0 {}) 4 (some { rise := 159, count := 4, interrupted := false })).verdict = .noEngage
      ∧ (classify header18 (groups18.getD 0 {}) 4 (some { rise := 480, count := 3, interrupted := false })).verdict = .noData :=
  by decide
theorem test_witness_WindowWorkClosesEnded :
    (∃ e ∈ (windowWork profile18 (sampleOf 3900 0) 0 [] running.win).win.openSet, e.group = 1)
      ∧ pins18[3]? = some (pin 0 3 (.group 0))
      ∧ running.win.map[3]? = some { verdict := .untested, estimate := none } := by decide +kernel
theorem test_witness_TriggersReleaseMatchAct :
    running.seq.phase = .engage ∧ scanned.seq.phase = .idle
      ∧ ({ kind := .force 2 1000, spanCode := 1, base := 3648, enable := true, hit := false, suppress := false } : Trigger).kind
        = .force 2 1000
      ∧ ([0, 0, 1001] : List Int)[2]? = some 1001 := by decide
theorem test_witness_HoldRequestEntersHeld :
    (inPhase .seating scanned).seq.phase = .seating ∧ ¬(scanned.seq.phase = .approach ∨ scanned.seq.phase = .engage
      ∨ scanned.seq.phase = .seating) := by decide
theorem test_witness_StallTooLongAndCaptureFreeze :
    running.live = true ∧ running.seq.stallTimer ≠ none ∧ scanned.seq.stallTimer = none
      ∧ endsTooLong (sampleBody 0 3100) (sampleCheck (sampleBody 0 3100))
          { running with sns := { port := .up }, seq := { running.seq with sampleCount := 262144 } } = true
      ∧ endsCountdown (sampleBody 0 3100) (sampleCheck (sampleBody 0 3100))
          { scanned with sns := { port := .up }, cap := { state := .counting, countdown := 1 } } = true := by
  decide +kernel
theorem test_witness_AbortEndsStroke : AbortReason.stall ≠ .disarm := by decide
theorem test_witness_EntryToIdle :
    let s (t : Tables) : State := { load := { staged := t } }
    (s .absent).load.staged = .absent ∧ (s .loading).load.staged = .loading
      ∧ (s (.ready profile18)).load.staged = .ready profile18 := ⟨rfl, rfl, rfl⟩

theorem test_witness_OtherFramesPass :
    (portsUp {}).live = true ∧ (portsUp {}).sns.port = .up ∧ (portsUp {}).ctl.port = .up
      ∧ (⟨9, [], 0⟩ : Frame).cls ≠ 0x01#8 ∧ (⟨9, [], 0⟩ : Frame).cls ≠ 0x02#8 ∧ badReturn ⟨9, [], 0⟩ = true
      ∧ badReturn ⟨9, [], frameCheck 9 []⟩ = false ∧ badForward ⟨9, [], frameCheck 9 []⟩ = false
      ∧ State.reset.sns.port ≠ .up ∧ State.reset.ctl.port ≠ .up := by decide +kernel
theorem test_witness_CommandFrameRouting :
    let good (dest : Byte) := badReturn ⟨0x02#8, commandBody dest 31, frameCheck 0x02#8 (commandBody dest 31)⟩ = false
    good 0 ∧ good 63 ∧ good 1 ∧ commandDest (commandBody 63 31) = 63#6 ∧ commandDest (commandBody 0 31) = 0#6 := by
  decide +kernel
theorem test_witness_TransmitterEvents :
    let f : Frame := ⟨9, [], 0⟩
    let i : Inserted := .response 0 1 .ok []
    let s (fwd : List Frame) (q : List Inserted) (l : Option Outgoing) : State :=
      { portsUp {} with tx := { fwd := fwd, queue := q, lane := l }, evt := { dropOwed := some { strokeNumber := 7, depth := 3100 } } }
    (s [f] [i] none).live = true ∧ (s [f] [i] none).ctl.port = .up ∧ (s [f] [i] none).tx.lane = none
      ∧ (s [f] [i] none).tx.fwd = f :: [] ∧ (s [] [i] none).tx.queue = i :: []
      ∧ (s [] [] none).tx.queue = [] ∧ (s [] [] (some (.forwarded f))).tx.lane = some (.forwarded f)
      ∧ (s [] (List.replicate 31 i) none).tx.queue.length < 32 ∧ 32 ≤ (s [] (List.replicate 32 i) none).tx.queue.length
      ∧ (s [] [] none).evt.dropOwed = some { strokeNumber := 7, depth := 3100 } ∧ scanned.evt.dropOwed = none := by decide
theorem test_witness_PortsTrain :
    State.reset.live = true ∧ State.reset.sns.port = .down ∧ State.reset.ctl.port = .down
      ∧ ({ sns := { port := .training } } : State).sns.port = .training
      ∧ ({ ctl := { port := .training } } : State).ctl.port = .training := by decide
theorem test_witness_PortLosses :
    (portsUp {}).live = true ∧ (portsUp {}).sns.port = .up ∧ (portsUp {}).ctl.port = .up ∧ (portsUp {}).tx.drop ≤ 65535 := by
  decide
/-- A PIN_FAIL sample hands on the open-window count of the engine, though the abort empties the set (03 R66, 09 R170). -/
theorem test_pin_fail_count :
    let s : State := { running with dec := { stopOnFail := true } }
    let r := engageWork (sampleOf 4000 0) 0 { s with seq := { s.seq with highWater := 4000 } }
    r.1.seq.phase = .aborted ∧ r.1.win.openSet = [] ∧ r.2.openCount = some 1 := by decide +kernel
/-- DROP owed carries the stroke number and depth of the raising that set the flag (07 R131, R132; log 18). -/
theorem test_drop_items :
    (dropInserted (dropInserted { running with sns := { latestDepth := 3500 } })).evt.dropOwed
        = some { strokeNumber := 2, depth := 3500 }
      ∧ (dropInserted { dropInserted running with sns := { latestDepth := 9 } }).evt.dropOwed
        = some { strokeNumber := 2, depth := 0 } := by decide
theorem test_witness_WritesAndProtectComplete :
    scanned.live = true ∧ ∀ op, (withOp op scanned).store.nvOp = some op := ⟨rfl, fun _ => rfl⟩
theorem test_witness_LoadsCompleteOrFail :
    let s : State := { withSlot 23 profile18 scanned with load := { active := .loading, activeSlot := some 23 } }
    let u : State := { withSlot 23 profile18 scanned with load := { staged := .loading, stagedSlot := some 23 } }
    s.live = true ∧ s.content 23 = .image profile18 (imageCheck profile18) ∧ s.load.active = .loading
      ∧ s.load.activeSlot = some 23 ∧ u.load.staged = .loading ∧ u.load.stagedSlot = some 23
      ∧ (withOp (.editLoad 23) s).store.nvOp = some (.editLoad 23) := ⟨rfl, rfl, rfl, rfl, rfl, rfl, rfl⟩

end Sys2Proof.Machine
end

/-! Validation in the words of R16-R23: each of the fifteen checks finds its failure, and the first of them that does is
what validation names. -/

namespace Sys2Proof.Machine

/-! ### One check -/

/-- What a failure says of the image: no item when the header fails the check, else the lowest failing item (R16). -/
def CheckFailure.Describes (f : CheckFailure) (img : Image) : Prop :=
  (f.item = none → ¬ img.headerPasses f.check)
  ∧ ∀ k, f.item = some k → img.headerPasses f.check ∧ img.itemFails f.check k ∧ ∀ j < k, ¬ img.itemFails f.check j

/-- A result of check `n` alone: nothing when the check passes, else the failure of that check. -/
def Image.CheckFinds (img : Image) (n : Nat) (r : Option CheckFailure) : Prop :=
  (r = none ↔ img.passes n) ∧ ∀ f, r = some f → f.check = n ∧ f.Describes img

/-- A check of the header and then of the items. -/
theorem Image.checkFinds_header_items {img : Image} {n : Nat} {P : Prop} [Decidable P] {r : Option Nat}
    (hh : P ↔ ¬ img.headerPasses n) (hi : FindsLowest r (img.itemFails n)) :
    img.CheckFinds n (headerCheck n P <|> reported n r) := by
  obtain ⟨hnone, hsome⟩ := hi
  by_cases hP : P
  · have hfail := hh.1 hP
    simp [CheckFinds, headerCheck, hP, Image.passes, CheckFailure.Describes, hfail]
  · have hpass : img.headerPasses n := by_contra fun h => hP (hh.2 h)
    cases r with
    | none => simpa [CheckFinds, headerCheck, hP, reported, Image.passes, hpass] using hnone
    | some k =>
      have hk := hsome k rfl
      refine ⟨⟨by simp [headerCheck, hP, reported], fun h => absurd hk.1 (h.2 k)⟩, ?_⟩
      simpa [headerCheck, hP, reported, CheckFailure.Describes, hpass] using hk

/-- A check of the header alone. -/
theorem Image.checkFinds_header {img : Image} {n : Nat} {P : Prop} [Decidable P]
    (hh : P ↔ ¬ img.headerPasses n) (hi : ∀ k, ¬ img.itemFails n k) : img.CheckFinds n (headerCheck n P) := by
  simpa [reported] using checkFinds_header_items (r := none) hh ⟨by simpa using hi, by simp⟩

/-- A check of the items alone. -/
theorem Image.checkFinds_items {img : Image} {n : Nat} {r : Option Nat}
    (hh : img.headerPasses n) (hi : FindsLowest r (img.itemFails n)) : img.CheckFinds n (reported n r) := by
  simpa [headerCheck] using checkFinds_header_items (P := False) (by simpa using hh) hi

/-! ### The checks in order -/

/-- A result of the checks `n` to 15 in order: nothing when all pass, else the failure of the first that fails. -/
def Image.FirstFailure (img : Image) (n : Nat) (r : Option CheckFailure) : Prop :=
  (r = none ↔ ∀ m, n ≤ m → m ≤ 15 → img.passes m)
  ∧ ∀ f, r = some f → n ≤ f.check ∧ f.check ≤ 15 ∧ (∀ m, n ≤ m → m < f.check → img.passes m) ∧ f.Describes img

theorem Image.CheckFinds.last {img : Image} {r : Option CheckFailure} (h : img.CheckFinds 15 r) :
    img.FirstFailure 15 r := by
  obtain ⟨hnone, hsome⟩ := h
  refine ⟨hnone.trans ⟨fun h m h1 h2 => by rwa [show m = 15 by omega], fun h => h 15 le_rfl le_rfl⟩, fun f hf => ?_⟩
  obtain ⟨hn, hd⟩ := hsome f hf
  exact ⟨by omega, by omega, fun m h1 h2 => by omega, hd⟩

/-- A check that passes leaves the answer to the checks after it. -/
theorem Image.CheckFinds.andThen {img : Image} {n : Nat} {r rest : Option CheckFailure} (h : img.CheckFinds n r)
    (hr : img.FirstFailure (n + 1) rest) (hn : n ≤ 15 := by decide) : img.FirstFailure n (r <|> rest) := by
  obtain ⟨hnone, hsome⟩ := h
  cases r with
  | some f =>
    obtain ⟨rfl, hd⟩ := hsome f rfl
    refine ⟨⟨by simp, fun h => absurd (hnone.2 (h _ le_rfl hn)) (by simp)⟩, fun g hg => ?_⟩
    obtain rfl : f = g := by simpa using hg
    exact ⟨le_rfl, hn, fun m h1 h2 => by omega, hd⟩
  | none =>
    have hp : img.passes n := hnone.1 rfl
    have from_n : ∀ m, n ≤ m → (n + 1 ≤ m → img.passes m) → img.passes m := fun m h1 h2 => by
      obtain rfl | h3 := h1.eq_or_lt
      · exact hp
      · exact h2 h3
    obtain ⟨rnone, rsome⟩ := hr
    rw [show (none <|> rest) = rest by simp]
    refine ⟨rnone.trans ⟨fun h m h1 h2 => from_n m h1 fun h3 => h m h3 h2, fun h m h1 => h m (by omega)⟩,
      fun f hf => ?_⟩
    obtain ⟨h1, h2, h3, hd⟩ := rsome f hf
    exact ⟨by omega, h2, fun m h4 h5 => from_n m h4 fun h6 => h3 m h6 h5, hd⟩

/-- A check whose header part and item part stand apart in the chain. -/
theorem Image.CheckFinds.andThen_parts {img : Image} {n : Nat} {r₁ r₂ rest : Option CheckFailure}
    (h : img.CheckFinds n (r₁ <|> r₂)) (hr : img.FirstFailure (n + 1) rest) (hn : n ≤ 15 := by decide) :
    img.FirstFailure n (r₁ <|> r₂ <|> rest) := by
  have assoc : ((r₁ <|> r₂) <|> rest) = (r₁ <|> r₂ <|> rest) := by cases r₁ <;> rfl
  exact assoc ▸ h.andThen hr hn

/-! ### The searches for an item (R18-R22) -/

theorem windowFault_finds (img : Image) : FindsLowest (windowFault img.liveGroups) (img.itemFails 5) :=
  firstIndex_lowest _ _ _ (by simp)

/-- A word shifted right by `n` is nonzero when a bit at or above `n` is set. -/
theorem shiftRight_ne_zero_iff {w : Nat} (x : BitVec w) (n : Nat) :
    x.toNat >>> n ≠ 0 ↔ ∃ c, x.getLsbD c = true ∧ n ≤ c := by
  constructor
  · intro h
    obtain ⟨i, hi⟩ := Nat.exists_testBit_of_ne_zero h
    exact ⟨n + i, by simpa [BitVec.getLsbD] using hi, by omega⟩
  · rintro ⟨c, hc, hn⟩ h
    have hbit : (x.toNat >>> n).testBit (c - n) = true := by
      rw [Nat.testBit_shiftRight, Nat.add_sub_cancel' hn]; exact hc
    simp [h] at hbit

theorem groupChanFault_finds (img : Image) :
    FindsLowest (groupChanFault img.header.channelCount img.liveGroups) (img.itemFails 6) :=
  firstIndex_lowest _ _ _ fun g => by
    rw [← shiftRight_ne_zero_iff]; simp

theorem limitsFault_finds (img : Image) :
    FindsLowest (limitsFault img.header.floor img.liveGroups) (img.itemFails 7) :=
  firstIndex_lowest _ _ _ (by simp)

/-- V-CONTACT looks at group 0 alone (R19). -/
theorem contactFault_lowest (contact : Nat) (gs : List GroupRec) :
    FindsLowest (contactFault contact gs) (fun k => ∃ g, gs[k]? = some g ∧ k = 0 ∧ g.start ≤ contact) := by
  cases gs with
  | nil => simp [FindsLowest, contactFault]
  | cons g gs =>
    by_cases h : g.start ≤ contact
    · refine ⟨⟨by simp [contactFault, h], fun hc => absurd ⟨g, rfl, rfl, h⟩ (hc 0)⟩, fun k hk => ?_⟩
      obtain rfl : 0 = k := by simpa [contactFault, h] using hk
      exact ⟨⟨g, rfl, rfl, h⟩, by simp⟩
    · refine ⟨⟨fun _ => ?_, fun _ => by simp [contactFault, h]⟩, by simp [contactFault, h]⟩
      rintro k ⟨a, ha, rfl, hs⟩
      obtain rfl : g = a := by simpa using ha
      exact h hs

theorem seatFault_finds (img : Image) : FindsLowest (seatFault img.header.seatMin img.liveGroups) (img.itemFails 9) :=
  firstIndex_lowest _ _ _ fun _ => decide_eq_true_iff

theorem windowsAt_eq (gs : List GroupRec) (d : Nat) :
    windowsAt gs d = (gs.filter fun o => decide (o.start ≤ d ∧ d < o.start + o.length)).length := by
  simp only [windowsAt, Bool.decide_and]
  rfl

theorem overlapFault_finds (img : Image) : FindsLowest (overlapFault img.liveGroups) (img.itemFails 10) :=
  firstIndex_lowest _ _ _ fun g => by
    rw [decide_eq_true_iff, windowsAt_eq]; rfl

theorem pinGroupFault_finds (img : Image) :
    FindsLowest (pinGroupFault img.header.groupCount img.livePins) (img.itemFails 11) := by
  refine (firstIndex_lowest _ (fun p => ∃ i, p.assign = .group i ∧ img.header.groupCount ≤ i) _ fun p => ?_).of_iff
    fun k => by simp [Image.itemFails, Image.livePins]
  cases p.assign <;> simp

theorem groupPins_eq_zero_iff (ps : List PinRec) (g : Nat) : groupPins ps g = 0 ↔ ∀ p ∈ ps, p.assign ≠ .group g := by
  simp [groupPins]

theorem emptyGroupFault_finds (img : Image) :
    FindsLowest (emptyGroupFault img.header.groupCount img.livePins) (img.itemFails 12) := by
  refine (firstIndex_lowest _ (fun g => ∀ p ∈ img.livePins, p.assign ≠ .group g) _ fun g => ?_).of_iff fun k => ?_
  · rw [decide_eq_true_iff, groupPins_eq_zero_iff]
  · simp [Image.itemFails, Image.livePins, List.getElem?_eq_some_iff]

theorem labelFault_finds (img : Image) : FindsLowest (labelFault [] img.livePins) (img.itemFails 13) :=
  (labelFault_lowest img.livePins []).of_iff fun k => by simp [Image.itemFails, Image.livePins]

/-! ### Validation -/

/-- Validation is the fifteen checks in the order of R16, V-SEAT with its header part first (R20). -/
theorem Image.validate_firstFailure (img : Image) : img.FirstFailure 1 img.validate := by
  have chanCount : img.CheckFinds 1 _ :=
    checkFinds_header (P := img.header.channelCount = 0 ∨ 12 < img.header.channelCount)
      (by simp only [headerPasses]; omega) fun _ => id
  have groupCount : img.CheckFinds 2 _ :=
    checkFinds_header (P := img.header.groupCount = 0 ∨ 96 < img.header.groupCount)
      (by simp only [headerPasses]; omega) fun _ => id
  have pinCount : img.CheckFinds 3 _ :=
    checkFinds_header (P := img.header.pinCount = 0 ∨ 640 < img.header.pinCount)
      (by simp only [headerPasses]; omega) fun _ => id
  have order := checkFinds_items (img := img) (n := 4) trivial (orderFault_lowest _)
  have window := checkFinds_items (n := 5) trivial (windowFault_finds img)
  have groupChan := checkFinds_items (n := 6) trivial (groupChanFault_finds img)
  have limits := checkFinds_items (n := 7) trivial (limitsFault_finds img)
  have contact := checkFinds_items (img := img) (n := 8) trivial (contactFault_lowest _ _)
  have seat := checkFinds_header_items (P := img.header.seatMax < img.header.seatMin)
    (by simp only [headerPasses]; omega) (seatFault_finds img)
  have overlap := checkFinds_items (n := 10) trivial (overlapFault_finds img)
  have pinGroup := checkFinds_items (n := 11) trivial (pinGroupFault_finds img)
  have emptyGroup := checkFinds_items (n := 12) trivial (emptyGroupFault_finds img)
  have label := checkFinds_items (n := 13) trivial (labelFault_finds img)
  have samples : img.CheckFinds 14 _ := checkFinds_header (P := img.header.minSamples < 2)
    (by simp only [headerPasses]; omega) fun _ => id
  have tolerances : img.CheckFinds 15 _ :=
    checkFinds_header (P := 255 < img.header.backlash ∨ 15 < img.header.gapTolerance)
      (by simp only [headerPasses]; omega) fun _ => id
  exact chanCount.andThen <| groupCount.andThen <| pinCount.andThen <| order.andThen <| window.andThen <|
    groupChan.andThen <| limits.andThen <| contact.andThen <| seat.andThen_parts <| overlap.andThen <| pinGroup.andThen <|
    emptyGroup.andThen <| label.andThen <| samples.andThen tolerances.last

/-! ### The two commands that read the buffer (08 R143, R145) -/

theorem validate_answers {c : Command} {s : State} (h : s.takes 11 c) (ha : c.args = []) :
    exec .validate s = .next (
      if s.editLoading then refusedWith c .busy s
      else match s.store.buffer.validate with
        | none => answered c okReply s
        | some f => answered c (invalidReply f) s) := by
  have taken : exec .validate s = .next (answered c (ownValidate () s).1 (ownValidate () s).2) :=
    congrArg Host.Outcome.next (runCommand_of_takes h (by simp [parseNone, ha]))
  rw [taken, ownValidate_state]
  unfold ownValidate
  split
  · rfl
  · cases s.store.buffer.validate <;> rfl

theorem readEdit_answers {c : Command} {s : State} {part : EditPart} (h : s.takes 14 c)
    (ha : parseReadEdit c.args = some part) :
    exec .readEdit s = .next (
      if s.editLoading then refusedWith c .busy s
      else answered c { result := .ok, data := editBytes s.store.buffer part } s) := by
  have taken : exec .readEdit s = .next (answered c (ownReadEdit part s).1 (ownReadEdit part s).2) :=
    congrArg Host.Outcome.next (runCommand_of_takes h ha)
  rw [taken]
  unfold ownReadEdit
  split <;> rfl

/-- Settles O21: the commands' answers by their owners, and what validation names by the chain of the fifteen checks. -/
theorem validateAndReadEditAnswer : Obligations.ValidateAndReadEditAnswer := by
  refine fun c s => ⟨fun h ha => ?_, fun part h ha => ?_, fun img => ?_⟩
  · rw [validate_answers h ha]
    cases s.store.buffer.validate <;> rfl
  · rw [readEdit_answers h ha]
    cases part <;> rfl
  · obtain ⟨hnone, hsome⟩ := img.validate_firstFailure
    refine ⟨hnone, fun f hf => ?_⟩
    obtain ⟨hlow, hhigh, hbefore, hheader, hitem⟩ := hsome f hf
    refine ⟨hlow, hhigh, hbefore, ?_⟩
    split
    case h_1 h => exact hheader h
    case h_2 k h => exact hitem k h

end Sys2Proof.Machine

/-! The stroke's blocks through one step: what each row can do to the sequencer, the window engine and the loader, and the
invariant of the tables (02 R27; 03 R71, R75; 08 R161). -/

namespace Sys2Proof.Machine

/-! ### One step, one command -/

/-- A step idles, or it is the front command on the state with the queue's rest. -/
theorem step_cases {s t : State} (h : step s = .next t) :
    t = s ∨ ∃ i rest, exec i { s with pending := rest } = .next t := by
  unfold step at h
  split at h
  · exact .inl (Host.Outcome.next.inj h).symm
  · exact .inr ⟨_, _, h⟩

/-- A command has one outcome, so what holds of the state it answers holds of every state it answers. -/
theorem of_exec_next {P : State → Prop} {i : Instr} {s u : State} (h : exec i s = .next u) (hu : P u) :
    ∀ t, exec i s = .next t → P t := fun _ ht => Host.Outcome.next.inj (h.symm.trans ht) ▸ hu

/-! ### What a step does to the sequencer, the window engine and the loader -/

/-- The two states have the same sequencer, window engine and loader, the stale mark of the tables aside. -/
structure SameStroke (s t : State) : Prop where
  active : t.load.active = s.load.active
  activeSlot : t.load.activeSlot = s.load.activeSlot
  staged : t.load.staged = s.load.staged
  stagedSlot : t.load.stagedSlot = s.load.stagedSlot
  swapPending : t.load.swapPending = s.load.swapPending
  win : t.win = s.win
  seq : t.seq = s.seq

theorem SameStroke.of_eq {s t : State} (load : t.load = s.load := by simp) (win : t.win = s.win := by simp)
    (seq : t.seq = s.seq := by simp) : SameStroke s t := by
  constructor <;> simp [load, win, seq]

theorem SameStroke.trans {s t u : State} (h : SameStroke s t) (h' : SameStroke t u) : SameStroke s u := by
  constructor <;> simp [h.active, h.activeSlot, h.staged, h.stagedSlot, h.swapPending, h.win, h.seq, h'.active,
    h'.activeSlot, h'.staged, h'.stagedSlot, h'.swapPending, h'.win, h'.seq]

/-- All that a command can do to the sequencer, the window engine and the loader. -/
inductive StrokeStep (s : State) : State → Prop
  /-- Nothing. -/
  | same {t : State} (h : SameStroke s t) : StrokeStep s t
  /-- A reset, or the loss of power (08 R140, R141; 10 R192). -/
  | fresh {u t : State} (load : u.load = {}) (win : u.win = {}) (seq : u.seq = {}) (h : SameStroke u t) : StrokeStep s t
  /-- A SAMPLE frame (09 R167). -/
  | sample (body : List Byte) (check : Word16) : StrokeStep s (receiveSample body check s)
  /-- The loss of the sensor port (02 R51). -/
  | sensorLost {u : State} (h : SameStroke s u) : StrokeStep s (sensorDown u)
  /-- The stall timer runs out (02 R45). -/
  | stall (running : s.seq.stallTimer.isSome = true) : StrokeStep s (abort .stall .absent s)
  /-- The end of an active load (08 R159). -/
  | activeLoad (slot : Nat) (intact : Bool) (loading : s.load.active = .loading) (hs : s.load.activeSlot = some slot) :
      StrokeStep s (finishActive slot intact s)
  /-- The end of a staged load (08 R160). -/
  | stagedLoad (slot : Nat) (intact : Bool) (loading : s.load.staged = .loading) (hs : s.load.stagedSlot = some slot) :
      StrokeStep s (finishStaged slot intact s)
  /-- ARM (02 R26, R27). -/
  | arm {t : State} (tag : List Byte) (h : SameStroke (ownArm tag s).2 t) : StrokeStep s t
  /-- DISARM (02 R47). -/
  | disarm {t : State} (h : SameStroke (ownDisarm () s).2 t) : StrokeStep s t
  /-- RESUME (02 R41). -/
  | resume {t : State} (h : SameStroke (ownResume () s).2 t) : StrokeStep s t
  /-- SELECT (08 R158). -/
  | select {t : State} (slot : Nat) (h : SameStroke (ownSelect slot s).2 t) : StrokeStep s t

section
variable {α : Type} {n : Nat} {always : Bool} {parse : List Byte → Option α} {owner : α → State → Reply × State} {s : State}

/-- A command's decoder leaves the stroke's blocks to its owner. -/
theorem runCommand_sameStroke :
    SameStroke s (runCommand n always parse owner s)
      ∨ ∃ a, SameStroke (owner a s).2 (runCommand n always parse owner s) := by
  refine runCommand_cases (fun t => SameStroke s t ∨ ∃ a, SameStroke (owner a s).2 t) (.inl .of_eq) (fun c r t h => ?_)
    (fun a => .inr ⟨a, .of_eq⟩)
  have answer : SameStroke t (answered c r t) := .of_eq
  rcases h with h | ⟨a, h⟩
  · exact .inl (h.trans answer)
  · exact .inr ⟨a, h.trans answer⟩

/-- A command whose owner leaves the stroke's blocks leaves them. -/
theorem StrokeStep.quiet (h : ∀ a, SameStroke s (owner a s).2) : StrokeStep s (runCommand n always parse owner s) := by
  rcases runCommand_sameStroke with same | ⟨a, same⟩
  · exact .same same
  · exact .same ((h a).trans same)

/-- A command does what its owner does, or nothing. -/
theorem StrokeStep.command (h : ∀ a t, SameStroke (owner a s).2 t → StrokeStep s t) :
    StrokeStep s (runCommand n always parse owner s) := by
  rcases runCommand_sameStroke with same | ⟨a, same⟩
  · exact .same same
  · exact h a _ same

end

theorem StrokeStep.refl {s : State} : StrokeStep s s := .same .of_eq

/-- A guarded event takes place or does nothing. -/
theorem StrokeStep.guarded {s u : State} {b : Bool} (h : b = true → StrokeStep s u) :
    StrokeStep s (if b = true then u else s) := by
  split
  case isTrue hb => exact h hb
  case isFalse => exact .refl

/-- A write to a slot marks the tables stale at most (08 R148). -/
theorem startWrite_sameStroke (op : NvOp) (slot : Nat) (s : State) : SameStroke s (startWrite op slot s).2 := by
  unfold startWrite
  split
  · exact .of_eq
  · exact ⟨rfl, rfl, rfl, rfl, rfl, rfl, rfl⟩

theorem ownCommit_sameStroke (slot : Nat) (s : State) : SameStroke s (ownCommit slot s).2 := by
  unfold ownCommit
  split
  · exact .of_eq
  · split
    · exact .of_eq
    · exact startWrite_sameStroke _ _ _

theorem receiveForward_strokeStep (f : Frame) (s : State) : StrokeStep s (receiveForward f s) := by
  unfold receiveForward
  split
  · exact .sample _ _
  · split
    · split <;> exact .same .of_eq
    · exact .refl

theorem ownResetUnit_strokeStep {s t : State} (h : SameStroke (ownResetUnit () s).2 t) : StrokeStep s t := by
  unfold ownResetUnit at h
  split at h
  · exact .same h
  · split at h
    · exact .same h
    · exact .fresh (u := softReset s) rfl rfl rfl h

theorem StrokeStep.powerOn {s t : State} (load : t.load = {}) (win : t.win = {}) (seq : t.seq = {}) : StrokeStep s t :=
  .fresh load win seq .of_eq

/-- What each row can do to the stroke's blocks. -/
theorem exec_strokeStep (i : Instr) (s : State) : ∀ t, exec i s = .next t → StrokeStep s t := by
  cases i with
  | powerOn nrst wp locken addr =>
    refine of_exec_next rfl ?_
    split
    · exact .refl
    · exact .powerOn rfl rfl rfl
  | nrstLow | powerOnScanDone changed | dropReport | trainingComplete p | controllerPortLoss arriving
  | controllerPortBadFrame f =>
    exact of_exec_next rfl (.guarded fun _ => .same .of_eq)
  | nrstRise locken addr | powerOff =>
    exact of_exec_next rfl (.guarded fun _ => .powerOn rfl rfl rfl)
  | sampleFrame body check => exact of_exec_next rfl (.sample body check)
  | forwardFrame f => exact of_exec_next rfl (receiveForward_strokeStep f s)
  | commandFrame body check | returnFrame f | transmitFrame | wpRise | frameSent | idlePatternSeen p
  | trainingLost p =>
    exact of_exec_next rfl (.same .of_eq)
  | sensorPortLoss arriving passing =>
    exact of_exec_next rfl (.guarded fun _ => .sensorLost (by split <;> exact .of_eq))
  | stall => exact of_exec_next rfl (.guarded fun h => .stall (Bool.and_eq_true_iff.mp h).2)
  | tooLong body check | captureFreeze body check =>
    exact of_exec_next rfl (.guarded fun _ => .sample body check)
  | commitDone took | eraseDone took | protectDone readBack | clearProtectDone readBack | editLoadDone intact =>
    refine of_exec_next rfl ?_
    split
    · exact .guarded fun _ => .same .of_eq
    · exact .refl
  | activeLoadDone intact =>
    refine of_exec_next rfl ?_
    split
    case h_1 slot loading hs => exact .guarded fun _ => .activeLoad slot intact loading hs
    case h_2 => exact .refl
  | stagedLoadDone intact =>
    refine of_exec_next rfl ?_
    split
    case h_1 slot loading hs => exact .guarded fun _ => .stagedLoad slot intact loading hs
    case h_2 => exact .refl
  | wpFall =>
    refine of_exec_next rfl (.guarded fun _ => ?_)
    split <;> exact .same .of_eq
  | arm => exact of_exec_next rfl (.command fun tag _ h => .arm tag h)
  | disarm => exact of_exec_next rfl (.command fun _ _ h => .disarm h)
  | resume => exact of_exec_next rfl (.command fun _ _ h => .resume h)
  | select => exact of_exec_next rfl (.command fun slot _ h => .select slot h)
  | resetUnit => exact of_exec_next rfl (.command fun _ _ h => ownResetUnit_strokeStep h)
  | commit => exact of_exec_next rfl (.quiet fun slot => ownCommit_sameStroke slot s)
  | erase => exact of_exec_next rfl (.quiet fun slot => startWrite_sameStroke _ slot s)
  | clearStop | editClear | editLoad | setHeader | putGroup | putPins | setCounts | validate | readEdit
  | readDirectory | lockRange | lockTight | protect svc | clearProtect svc | readVerdicts | setTrigger
  | readTriggers | clearHits | captureNow | releaseCapture | readCapture | readRecord | readPending
  | clearPending | readStatus | readIdent | getSetting | setSetting =>
    exact of_exec_next rfl (.quiet fun _ => .of_eq)

/-! ### The tables and the map follow the phase (08 R161) -/

theorem tab_sameStroke {s t : State} (h : TablesFollowPhase s) (hst : SameStroke s t) : TablesFollowPhase t := by
  obtain ⟨active, activeSlot, staged, stagedSlot, swapPending, win, seq⟩ := hst
  exact tab_congr h active activeSlot staged stagedSlot swapPending (by rw [win]) (.inl (by rw [seq]))

theorem Tables.code_eq_two_iff (t : Tables) : t.code = 2 ↔ ∃ img, t = .ready img := by cases t <;> simp [Tables.code]

/-- The active tables load in IDLE only, and with no map (02 R27; 03 R71). -/
theorem TablesFollowPhase.of_loading {s : State} (h : TablesFollowPhase s) (loading : s.load.active = .loading) :
    s.seq.phase = .idle ∧ s.win.map = [] := by
  obtain ⟨ready, -, -, -, map⟩ := h
  refine ⟨?_, ?_⟩
  · by_contra hp
    simpa [loading, Tables.code] using ready hp
  · simpa [State.profile, loading, Image.livePins] using map

/-- Outside IDLE no swap is pending (08 R161). -/
theorem TablesFollowPhase.no_swap {s : State} (h : TablesFollowPhase s) (hp : s.seq.phase ≠ .idle) :
    s.load.swapPending = false := by
  by_contra hc
  exact hp (h.2.1 (by simpa using hc)).1

theorem tab_finishActive {s : State} (h : TablesFollowPhase s) {slot : Nat} (intact : Bool)
    (loading : s.load.active = .loading) (hs : s.load.activeSlot = some slot) :
    TablesFollowPhase (finishActive slot intact s) := by
  obtain ⟨idle, noMap⟩ := h.of_loading loading
  obtain ⟨-, swap, -, staged, -⟩ := h
  simp only [finishActive]
  split
  · exact ⟨fun _ => rfl, swap, by simp [activate, hs], staged, by simp [activate, State.profile, freshMap_length]⟩
  · have fails : TablesFollowPhase { s with load := { s.load with active := .absent, activeSlot := none } } :=
      ⟨fun hp => absurd idle hp, swap, by simp, staged, by simp [State.profile, noMap, Image.livePins]⟩
    exact tab_eq fails (by simp [failActive, corruptSlot]) (by simp) (by simp)

theorem tab_finishStaged {s : State} (h : TablesFollowPhase s) {slot : Nat} (intact : Bool)
    (hs : s.load.stagedSlot = some slot) : TablesFollowPhase (finishStaged slot intact s) := by
  obtain ⟨ready, swap, active, staged, map⟩ := h
  simp only [finishStaged]
  split
  · unfold stageReady
    split
    · exact ⟨fun _ => rfl, by simp [swapTables], by simp [swapTables, hs], by simp [swapTables],
        by simp [swapTables, State.profile, freshMap_length]⟩
    case isFalse hsw => exact ⟨ready, fun hc => absurd hc hsw, active, by simp [hs], map⟩
  · have fails : TablesFollowPhase
        { s with load := { s.load with staged := .absent, stagedSlot := none, swapPending := false } } :=
      ⟨ready, by simp, active, by simp, map⟩
    exact tab_eq fails (by simp [failStaged, corruptSlot]) (by simp) (by simp)

/-- A taken ARM has passed its five checks (02 R26). -/
theorem armRefusal_eq_none {s : State} (h : armRefusal s = none) :
    s.seq.phase = .idle ∧ s.line.stop = false ∧ s.load.active.code = 2 ∧ s.load.swapPending = false
      ∧ s.seq.strokeNumber ≠ 4294967295 := by
  simp only [armRefusal] at h
  grind

theorem tab_arm {s : State} (h : TablesFollowPhase s) (tag : List Byte) : TablesFollowPhase (ownArm tag s).2 := by
  unfold ownArm
  split
  · exact h
  case h_2 passed =>
    obtain ⟨-, -, code, noSwap, -⟩ := armRefusal_eq_none passed
    obtain ⟨-, -, active, staged, -⟩ := h
    exact ⟨fun _ => code, by simp [beginStroke, noSwap], active, staged, freshMap_length _⟩

theorem tab_disarm {s : State} (h : TablesFollowPhase s) : TablesFollowPhase (ownDisarm () s).2 := by
  unfold ownDisarm
  split <;> rename_i hp
  case h_1 => exact h
  case h_2 | h_3 | h_4 => exact tab_idle h (by simp [hp])
  all_goals
    have stroke : s.seq.phase ≠ .idle := by simp [hp]
    refine tab_idle (s := abortBody .disarm .absent s) (tab_run h (by simp) (by simp [abortBody_map]) stroke) ?_
    simp [abortBody, stopTimer, stroke]

theorem tab_resume {s : State} (h : TablesFollowPhase s) : TablesFollowPhase (ownResume () s).2 := by
  unfold ownResume
  split
  case isTrue hp => exact tab_run h rfl rfl (by simp [hp])
  case isFalse => exact h

/-- An abandoned staged load leaves no swap pending, and slots with the tables that stand (08 R159). -/
theorem abandonStaged_spec {s : State} (h : TablesFollowPhase s) :
    (abandonStaged s.load).swapPending = false
      ∧ ((abandonStaged s.load).staged ≠ .absent ↔ (abandonStaged s.load).stagedSlot.isSome = true) := by
  obtain ⟨-, swap, -, staged, -⟩ := h
  unfold abandonStaged
  split
  case h_1 => simp
  all_goals
    rename_i hst
    refine ⟨?_, staged⟩
    by_contra hc
    simpa [hst] using (swap (by simpa using hc)).2

theorem tab_select {s : State} (h : TablesFollowPhase s) (slot : Nat) : TablesFollowPhase (ownSelect slot s).2 := by
  unfold ownSelect
  split
  · exact h
  · split
    case h_4 =>
      split
      case isTrue idle =>
        obtain ⟨noSwap, staged⟩ := abandonStaged_spec h
        exact ⟨fun hp => absurd idle hp, by simp [selectActive, noSwap], by simp [selectActive], staged,
          by simp [selectActive, State.profile, Image.livePins]⟩
      case isFalse hp =>
        have noSwap := h.no_swap hp
        obtain ⟨ready, -, active, -, map⟩ := h
        exact ⟨ready, by simp [selectStaged, noSwap], active, by simp [selectStaged], map⟩
    all_goals exact h

theorem strokeStep_keeps_tables {s t : State} (hl : LinesFollowPhase s) (h : TablesFollowPhase s) (step : StrokeStep s t) :
    TablesFollowPhase t := by
  cases step with
  | same hst => exact tab_sameStroke h hst
  | fresh load win seq hst => exact tab_sameStroke (tab_empty load (by rw [win]) (by rw [seq])) hst
  | sample body check => exact tab_receive h body check
  | sensorLost hst => exact tab_sensorDown (tab_sameStroke h hst)
  | stall running =>
    obtain ⟨-, -, timer, -⟩ := hl
    refine tab_abort h (fun idle => ?_) _ _
    simpa [idle, Phase.inStroke] using timer running
  | activeLoad slot intact loading hs => exact tab_finishActive h intact loading hs
  | stagedLoad slot intact loading hs => exact tab_finishStaged h intact hs
  | arm tag hst => exact tab_sameStroke (tab_arm h tag) hst
  | disarm hst => exact tab_sameStroke (tab_disarm h) hst
  | resume hst => exact tab_sameStroke (tab_resume h) hst
  | select slot hst => exact tab_sameStroke (tab_select h slot) hst

/-- Settles O9: each thing a step can do to the stroke's blocks keeps the tables with the phase. -/
theorem stepKeepsTablesFollowPhase : Obligations.StepKeepsTablesFollowPhase := by
  intro s t hl h hstep
  obtain rfl | ⟨i, rest, hexec⟩ := step_cases hstep
  · exact h
  · refine strokeStep_keeps_tables ?_ ?_ (exec_strokeStep i _ t hexec)
    · exact lfp_congr hl rfl rfl
    · exact tab_eq h rfl rfl rfl

end Sys2Proof.Machine

/-! The open windows follow the stroke: what a validated profile says of its windows, what one sample's work leaves open, and
the invariant (02 R34; 03 R53, R54, R61, R62, R72). -/

namespace Sys2Proof.Machine

/-! ### The windows of a validated profile (01 R18-R21) -/

theorem Image.passes_of_validated {img : Image} (hv : img.validate = none) {n : Nat} (h1 : 1 ≤ n) (h2 : n ≤ 15) :
    img.passes n := img.validate_firstFailure.1.1 hv n h1 h2

theorem Image.liveGroups_getElem {img : Image} {i : Nat} (h : i < img.liveGroups.length) :
    img.liveGroups[i]? = some (img.groupAt i) := by
  have hg : i < img.groups.length ∧ i < img.header.groupCount := by
    simp [Image.liveGroups] at h; omega
  simp [Image.liveGroups, Image.groupAt, hg.1, hg.2]

/-- V-ORDER: the starts rise with the index (R18). -/
theorem Image.start_mono {img : Image} (hv : img.validate = none) {i j : Nat} (hij : i ≤ j)
    (hj : j < img.liveGroups.length) : (img.groupAt i).start ≤ (img.groupAt j).start := by
  obtain ⟨-, ordered⟩ := img.passes_of_validated hv (n := 4) (by decide) (by decide)
  induction j, hij using Nat.le_induction with
  | base => exact le_rfl
  | succ j hij ih =>
    refine (ih (by omega)).trans (not_lt.mp fun hlt => ordered (j + 1) ?_)
    exact ⟨_, Image.liveGroups_getElem hj, j, _, rfl, Image.liveGroups_getElem (by omega), hlt⟩

/-- V-CONTACT: every window starts below the contact depth (R19). -/
theorem Image.contact_lt_start {img : Image} (hv : img.validate = none) {i : Nat} (hi : i < img.liveGroups.length) :
    img.header.contactDepth < (img.groupAt i).start := by
  obtain ⟨-, contact⟩ := img.passes_of_validated hv (n := 8) (by decide) (by decide)
  refine lt_of_lt_of_le (not_le.mp fun hle => contact 0 ?_) (Image.start_mono hv (Nat.zero_le i) hi)
  exact ⟨_, Image.liveGroups_getElem (by omega), rfl, hle⟩

theorem Image.liveGroups_eq_map (img : Image) :
    img.liveGroups = (List.range img.liveGroups.length).map img.groupAt := by
  refine List.ext_getElem? fun i => ?_
  by_cases hi : i < img.liveGroups.length
  · rw [Image.liveGroups_getElem hi]; simp [hi]
  · simp [hi]

/-- V-OVERLAP: at most 8 windows contain the start of a group (R21). -/
theorem Image.overlap_le {img : Image} (hv : img.validate = none) {i : Nat} (hi : i < img.liveGroups.length) :
    ((List.range img.liveGroups.length).filter fun j =>
      decide ((img.groupAt j).start ≤ (img.groupAt i).start ∧ (img.groupAt i).start < (img.groupAt j).windowEnd)).length
        ≤ 8 := by
  obtain ⟨-, overlap⟩ := img.passes_of_validated hv (n := 10) (by decide) (by decide)
  refine not_lt.mp fun hlt => overlap i ⟨_, Image.liveGroups_getElem hi, ?_⟩
  show 8 < (img.liveGroups.filter _).length
  rw [Image.liveGroups_eq_map, List.filter_map, List.length_map]
  exact hlt

/-! ### The windows that contain a depth (03 R53, R61, R62) -/

/-- The open windows, in index order and passed by the cursor, are windows of the profile that contain the depth. -/
def WindowsAt (img : Image) (depth : Nat) (w : WinState) : Prop :=
  (w.openSet.map WinEntry.group).Pairwise (· < ·)
  ∧ ∀ e ∈ w.openSet, e.group < w.cursor ∧ e.group < img.liveGroups.length
      ∧ (img.groupAt e.group).start ≤ depth ∧ depth < (img.groupAt e.group).windowEnd

/-- Windows that contain one depth all contain the start of the last of them, so a validated profile has at most 8 open. -/
theorem WindowsAt.length_le {img : Image} {depth : Nat} {w : WinState} (h : WindowsAt img depth w)
    (hv : img.validate = none) : w.openSet.length ≤ 8 := by
  obtain ⟨sorted, contain⟩ := h
  by_cases hne : w.openSet = []
  · simp [hne]
  · obtain ⟨last, hlast, hmax⟩ := w.openSet.toFinset.exists_max_image WinEntry.group
      (by simpa [Finset.nonempty_iff_ne_empty] using hne)
    simp only [List.mem_toFinset] at hlast hmax
    obtain ⟨-, hlive, hstart, -⟩ := contain last hlast
    have sub : w.openSet.map WinEntry.group ⊆ (List.range img.liveGroups.length).filter fun j =>
        decide ((img.groupAt j).start ≤ (img.groupAt last.group).start
          ∧ (img.groupAt last.group).start < (img.groupAt j).windowEnd) := by
      intro j hj
      obtain ⟨e, he, rfl⟩ := List.mem_map.mp hj
      obtain ⟨-, elive, -, eend⟩ := contain e he
      have order := Image.start_mono hv (hmax e he) hlive
      simp only [List.mem_filter, List.mem_range, decide_eq_true_eq]
      omega
    have nodup : (w.openSet.map WinEntry.group).Nodup := sorted.imp fun h => h.ne
    calc w.openSet.length = (w.openSet.map WinEntry.group).length := by simp
      _ ≤ _ := (nodup.subperm sub).length_le
      _ ≤ 8 := Image.overlap_le hv hlive

/-- How many groups the cursor passes on a sample (R62). -/
def passedCount (img : Image) (depth cursor : Nat) : Nat :=
  ((img.liveGroups.drop cursor).takeWhile fun g => decide (g.start ≤ depth)).length

theorem closeEnded_cursor (img : Image) (depth : Nat) (w : WinState) :
    (closeEnded img depth w).win.cursor = w.cursor := by
  rw [closeEnded_eq]
  exact (judgeAll_keeps img _ w).1

theorem closeEnded_openSet (img : Image) (depth : Nat) (w : WinState) :
    (closeEnded img depth w).win.openSet = w.openSet.filter fun e => !WinEntry.ended img depth e := by
  rw [closeEnded_eq]

theorem windowWork_cursor (img : Image) (x : Sample) (gap : Nat) (net : List Int) (w : WinState) :
    (windowWork img x gap net w).win.cursor = w.cursor + passedCount img x.depth w.cursor := by
  simp only [windowWork]
  rw [openReached_eq img x.depth net _ _ _ rfl rfl, closeEnded_cursor]
  rfl

/-- The groups open after a sample: those whose window has not ended, then those the cursor has passed and not jumped. -/
theorem windowWork_openGroups (img : Image) (x : Sample) (gap : Nat) (net : List Int) (w : WinState) :
    (windowWork img x gap net w).win.openSet.map WinEntry.group
      = (w.openSet.map WinEntry.group ++ List.range' w.cursor (passedCount img x.depth w.cursor)).filter fun i =>
          !decide ((img.groupAt i).windowEnd ≤ x.depth) := by
  simp only [windowWork]
  rw [openReached_eq img x.depth net _ _ _ rfl rfl, closeEnded_cursor, closeEnded_openSet]
  simp [List.filter_map, Function.comp_def, markOverrange, updateEntry, openEntry, WinEntry.ended, passedCount]

/-- A group that the cursor passes is a group of the profile, and its start is reached. -/
theorem passed_spec {img : Image} {depth cursor i : Nat} (h1 : cursor ≤ i)
    (h2 : i < cursor + passedCount img depth cursor) :
    i < img.liveGroups.length ∧ (img.groupAt i).start ≤ depth := by
  have hlen : passedCount img depth cursor ≤ (img.liveGroups.drop cursor).length :=
    (List.takeWhile_prefix _).length_le
  have hi : i < img.liveGroups.length := by rw [List.length_drop] at hlen; omega
  refine ⟨hi, ?_⟩
  have hpre := List.takeWhile_prefix (fun g : GroupRec => decide (g.start ≤ depth)) (l := img.liveGroups.drop cursor)
  have hidx : i - cursor < ((img.liveGroups.drop cursor).takeWhile fun g => decide (g.start ≤ depth)).length := by
    show i - cursor < passedCount img depth cursor
    omega
  have hget := hpre.getElem hidx
  have hstart := List.mem_takeWhile_imp (List.getElem_mem hidx)
  have hlive := Image.liveGroups_getElem hi
  rw [List.getElem?_eq_getElem hi] at hlive
  rw [hget, List.getElem_drop] at hstart
  simp only [Nat.add_sub_cancel' h1, Option.some.inj hlive] at hstart
  simpa using hstart

/-- The work on a sample leaves open the windows that contain its depth (R60-R62). -/
theorem WindowsAt.windowWork {img : Image} {depth : Nat} {w : WinState} (h : WindowsAt img depth w) {x : Sample}
    (hd : depth ≤ x.depth) (gap : Nat) (net : List Int) : WindowsAt img x.depth (windowWork img x gap net w).win := by
  obtain ⟨sorted, contain⟩ := h
  refine ⟨?_, fun e he => ?_⟩
  · rw [windowWork_openGroups]
    refine List.Pairwise.filter _ (List.pairwise_append.mpr ⟨sorted, List.pairwise_lt_range', fun a ha b hb => ?_⟩)
    obtain ⟨e, he, rfl⟩ := List.mem_map.mp ha
    have := (contain e he).1
    have := List.mem_range'_1.mp hb
    omega
  · have hgroup : e.group ∈ (Machine.windowWork img x gap net w).win.openSet.map WinEntry.group :=
      List.mem_map_of_mem he
    rw [windowWork_openGroups, List.mem_filter, List.mem_append] at hgroup
    obtain ⟨hold | hnew, hend⟩ := hgroup
    · obtain ⟨old, hold, heq⟩ := List.mem_map.mp hold
      obtain ⟨hc, hl, hs, -⟩ := contain old hold
      rw [heq] at hc hl hs
      refine ⟨?_, hl, hs.trans hd, by simpa using hend⟩
      rw [windowWork_cursor]; omega
    · have hr := List.mem_range'_1.mp hnew
      obtain ⟨hl, hs⟩ := passed_spec hr.1 hr.2
      refine ⟨?_, hl, hs, by simpa using hend⟩
      rw [windowWork_cursor]; omega

/-- Once every group has closed the engine has no more work (R54). -/
theorem windowWork_closed {img : Image} {w : WinState} (ho : w.openSet = []) (hc : w.cursor = img.header.groupCount)
    (x : Sample) (gap : Nat) (net : List Int) :
    (windowWork img x gap net w).win.openSet = [] ∧ (windowWork img x gap net w).win.cursor = img.header.groupCount := by
  have none : passedCount img x.depth w.cursor = 0 := by
    have : img.liveGroups.drop w.cursor = [] := by simp [Image.liveGroups, hc]
    simp [passedCount, this]
  refine ⟨?_, by rw [windowWork_cursor, none, hc]; rfl⟩
  have := windowWork_openGroups img x gap net w
  simpa [ho, none] using this

end Sys2Proof.Machine

/-! The open windows follow the stroke: the operations on the state, and the invariant. -/

namespace Sys2Proof.Machine

/-! ### What the invariant reads -/

/-- No window is left once every group has closed (03 R54), in SEATING and in HELD entered from it. -/
def ClosedInSeating (s : State) : Prop :=
  s.seq.phase = .seating ∨ (s.seq.phase = .held ∧ s.seq.heldFrom = some .seating) →
    s.win.openSet = [] ∧ s.win.cursor = s.profile.header.groupCount

theorem windowsFollowStroke_iff (s : State) : WindowsFollowStroke s ↔
    (s.seq.phase.inStroke = false → s.win.openSet = []) ∧ ClosedInSeating s ∧ s.win.openSet.length ≤ 8
      ∧ WindowsAt s.profile s.seq.highWater s.win := Iff.rfl

theorem win_congr {s t : State} (h : WindowsFollowStroke s) (openSet : t.win.openSet = s.win.openSet := by simp)
    (cursor : t.win.cursor = s.win.cursor := by simp) (active : t.load.active = s.load.active := by simp)
    (phase : t.seq.phase = s.seq.phase := by simp) (heldFrom : t.seq.heldFrom = s.seq.heldFrom := by simp)
    (highWater : t.seq.highWater = s.seq.highWater := by simp) : WindowsFollowStroke t := by
  unfold WindowsFollowStroke
  rw [openSet, cursor, profile_of_load active, phase, heldFrom, highWater]
  exact h

theorem win_sameStroke {s t : State} (h : WindowsFollowStroke s) (hst : SameStroke s t) : WindowsFollowStroke t :=
  win_congr h (by rw [hst.win]) (by rw [hst.win]) hst.active (by rw [hst.seq]) (by rw [hst.seq]) (by rw [hst.seq])

/-- With no window open, and the phase neither SEATING nor HELD, the invariant holds. -/
theorem win_none {s : State} (openSet : s.win.openSet = []) (seating : s.seq.phase ≠ .seating)
    (held : s.seq.phase ≠ .held) : WindowsFollowStroke s :=
  ⟨fun _ => openSet, by simp [seating, held], by simp [openSet], by simp [openSet], by simp [openSet]⟩

/-- Outside a running stroke the invariant is that no window is open. -/
theorem win_outside {s : State} (openSet : s.win.openSet = []) (hp : s.seq.phase.inStroke = false) :
    WindowsFollowStroke s :=
  win_none openSet (by rintro h; simp [h, Phase.inStroke] at hp) (by rintro h; simp [h, Phase.inStroke] at hp)

/-- A stroke runs on a validated profile (02 R26; 08 R149). -/
theorem profile_validated {s : State} (htab : TablesFollowPhase s) (hprof : ProfilesValidated s)
    (hp : s.seq.phase ≠ .idle) : s.profile.validate = none := by
  obtain ⟨img, himg⟩ := (Tables.code_eq_two_iff _).mp (htab.1 hp)
  obtain ⟨-, -, active, -⟩ := hprof
  simpa [State.profile, himg, Tables.validated] using active

/-! ### The ends of a stroke -/

theorem abort_openSet (r : AbortReason) (d : Detail) (s : State) : (abort r d s).win.openSet = [] := by
  simp [abort, abortBody, markAbort]

theorem win_abort (r : AbortReason) (d : Detail) (s : State) : WindowsFollowStroke (abort r d s) :=
  win_outside (abort_openSet r d s) (by rw [abort_seq]; rfl)

theorem enterIdle_openSet (s : State) : (enterIdle s).win.openSet = s.win.openSet := by
  simp only [enterIdle, loaderAtIdle]
  split <;> rfl

theorem win_enterIdle {s : State} (openSet : s.win.openSet = []) : WindowsFollowStroke (enterIdle s) :=
  win_outside (by rw [enterIdle_openSet, openSet]) (by rw [enterIdle_seq]; rfl)

theorem strokeDone_seq (depth : Nat) (s : State) :
    (strokeDone depth s).seq = { s.seq with phase := .retract, stallTimer := none } := by simp [strokeDone]

theorem win_strokeDone {s : State} (openSet : s.win.openSet = []) (depth : Nat) :
    WindowsFollowStroke (strokeDone depth s) :=
  win_outside (by simp [openSet]) (by rw [strokeDone_seq]; rfl)

theorem win_seatTest {s : State} (h : WindowsFollowStroke s) (x : Sample) : WindowsFollowStroke (seatTest x s) := by
  simp only [seatTest]
  split
  · split
    case isTrue hp => exact win_strokeDone (h.2.1 (.inl hp.1)).1 _
    case isFalse => exact win_abort _ _ _
  · split
    · exact win_abort _ _ _
    · exact h

/-! ### Holds and triggers -/

theorem win_hold {s : State} (h : WindowsFollowStroke s) : WindowsFollowStroke (holdRequest s) := by
  obtain ⟨-, closed, small, at_depth⟩ := (windowsFollowStroke_iff s).1 h
  unfold holdRequest
  split <;> rename_i hp
  case h_1 | h_2 | h_3 =>
    have held : WindowsFollowStroke { s with
        seq := { s.seq with phase := .held, heldFrom := some s.seq.phase, holdDepth := some s.seq.highWater } } :=
      ⟨by simp [Phase.inStroke], fun hs => closed (.inl (by simpa using hs)), small, at_depth⟩
    exact win_congr held
  all_goals exact h

theorem win_handToTriggers {s : State} (h : WindowsFollowStroke s) (x : Sample) (adv : Bool) (cs : List Classified) :
    WindowsFollowStroke (handToTriggers x adv cs s).1 := by
  unfold handToTriggers
  split
  · simp only [triggerWork]
    split
    · exact win_hold (win_congr h rfl rfl rfl rfl rfl rfl)
    · exact win_congr h rfl rfl rfl rfl rfl rfl
  · exact h

/-! ### An advancing sample -/

theorem everyGroupClosed_iff (img : Image) (w : WinState) :
    everyGroupClosed img w = true ↔ w.openSet = [] ∧ w.cursor = img.header.groupCount := by
  simp [everyGroupClosed, and_comm]

/-- The window engine's work in ENGAGE and SEATING, on a sample whose depth is the high-water depth already. -/
theorem win_engageWork {s : State} {depth : Nat} (hp : s.seq.phase = .engage ∨ s.seq.phase = .seating)
    (hv : s.profile.validate = none) (open_at : WindowsAt s.profile depth s.win)
    (closed : s.seq.phase = .seating → s.win.openSet = [] ∧ s.win.cursor = s.profile.header.groupCount)
    {x : Sample} (hx : s.seq.highWater = x.depth) (hd : depth ≤ x.depth) (gap : Nat) :
    WindowsFollowStroke (engageWork x gap s).1 := by
  have after : WindowsAt s.profile x.depth (windowReport x gap s).win := open_at.windowWork hd gap _
  have report : WindowsFollowStroke (takeReport (windowReport x gap s).win s) := by
    refine (windowsFollowStroke_iff _).2 ⟨fun hout => ?_, fun hseat => ?_, after.length_le hv, ?_⟩
    · have running := seatingPhase_in s.seq.phase (everyGroupClosed s.profile (windowReport x gap s).win) hp
      exact absurd running (by simpa [takeReport] using hout)
    · show (windowReport x gap s).win.openSet = [] ∧ (windowReport x gap s).win.cursor = s.profile.header.groupCount
      by_cases hc : everyGroupClosed s.profile (windowReport x gap s).win = true
      · exact (everyGroupClosed_iff _ _).1 hc
      · have seating : s.seq.phase = .seating := by
          rcases hp with hp | hp
          · simp [takeReport, seatingPhase, hc, hp] at hseat
          · exact hp
        obtain ⟨ho, hcur⟩ := closed seating
        exact windowWork_closed ho hcur _ _ _
    · show WindowsAt s.profile s.seq.highWater _
      rw [hx]
      exact after
  simp only [engageWork]
  split
  · exact win_abort _ _ _
  · exact win_seatTest report x

/-- No window is open above the contact depth of a validated profile (01 R19). -/
theorem WindowsAt.eq_nil_of_lt_contact {img : Image} {depth : Nat} {w : WinState} (h : WindowsAt img depth w)
    (hv : img.validate = none) (hd : depth < img.header.contactDepth) : w.openSet = [] := by
  refine List.eq_nil_iff_forall_not_mem.mpr fun e he => ?_
  obtain ⟨-, hlive, hstart, -⟩ := h.2 e he
  have := Image.contact_lt_start hv hlive
  omega

theorem win_phaseWork {s : State} (h : WindowsFollowStroke s) (hp : s.seq.phase.inStroke = true)
    (held : s.seq.phase ≠ .held) (hv : s.profile.validate = none) {x : Sample} (hx : s.seq.highWater < x.depth)
    (gap : Nat) : WindowsFollowStroke (phaseWork x gap (advance x.depth s)).1 := by
  obtain ⟨-, closed, -, open_at⟩ := (windowsFollowStroke_iff s).1 h
  have hpa : (advance x.depth s).seq.phase = s.seq.phase := rfl
  unfold phaseWork
  rw [hpa]
  split <;> rename_i hphase
  case h_1 =>
    unfold approachWork
    split
    case isTrue shallow =>
      have hnil : s.win.openSet = [] := open_at.eq_nil_of_lt_contact hv (hx.trans shallow)
      refine win_none hnil ?_ ?_
      · show s.seq.phase ≠ .seating
        simp [hphase]
      · exact held
    case isFalse =>
      split
      · exact win_abort _ _ _
      · refine win_engageWork (s := takeContact x (advance x.depth s)) (.inl rfl) hv open_at ?_ rfl hx.le gap
        intro hseat
        simp [takeContact] at hseat
  case h_2 =>
    exact win_engageWork (s := advance x.depth s) (.inl hphase) hv open_at (by simp [hpa, hphase]) rfl hx.le gap
  case h_3 =>
    exact win_engageWork (s := advance x.depth s) (.inr hphase) hv open_at (fun _ => closed (.inl hphase)) rfl hx.le gap
  case h_6 => exact absurd hphase held
  all_goals simp [hphase, Phase.inStroke] at hp

/-- Only a sample below the high-water depth, outside HELD, advances (02 R30, R40). -/
theorem movement_advancing {depth : Nat} {s : State} (h : movement depth s = .advancing) :
    s.seq.phase ≠ .held ∧ s.seq.highWater < depth := by
  simp only [movement] at h
  grind

theorem win_moveSample {s : State} (h : WindowsFollowStroke s) (hp : s.seq.phase.inStroke = true)
    (hv : s.profile.validate = none) (x : Sample) (gap : Nat) : WindowsFollowStroke (moveSample x gap s).1 := by
  unfold moveSample
  split
  case h_1 | h_2 => exact win_abort _ _ _
  case h_3 => exact win_handToTriggers h _ _ _
  case h_4 hmove =>
    obtain ⟨held, hx⟩ := movement_advancing hmove
    exact win_handToTriggers (win_phaseWork h hp held hv hx gap) _ _ _

/-- Steps 1 and 2 change the count, the timer and the peak alone (02 R29). -/
theorem takePeak_countSample_seq (x : Sample) (s : State) : ∃ peak, (takePeak x (countSample s)).seq
    = { s.seq with sampleCount := s.seq.sampleCount + 1, stallTimer := s.stallPeriod, peak := peak } := by
  unfold takePeak
  split <;> exact ⟨_, rfl⟩

theorem win_strokeSample {s : State} (h : WindowsFollowStroke s) (hp : s.seq.phase.inStroke = true)
    (hv : s.profile.validate = none) (x : Sample) (gap : Nat) : WindowsFollowStroke (strokeSample x gap s).1 := by
  obtain ⟨peak, hseq⟩ := takePeak_countSample_seq x s
  have hload : (takePeak x (countSample s)).load.active = s.load.active := by simp
  simp only [strokeSample]
  split
  · exact win_abort _ _ _
  · split
    · exact win_abort _ _ _
    · refine win_moveSample ?_ (by rw [hseq]; exact hp) (by rw [profile_of_load hload]; exact hv) x gap
      exact win_congr h (phase := by rw [hseq]) (heldFrom := by rw [hseq]) (highWater := by rw [hseq])

/-! ### Every step -/

theorem win_sequence {s : State} (h : WindowsFollowStroke s) (hv : s.seq.phase ≠ .idle → s.profile.validate = none)
    (x : Sample) (gap : Nat) : WindowsFollowStroke (sequence x gap s).1 := by
  unfold sequence
  split <;> rename_i hp
  case h_1 | h_2 => exact h
  case h_3 =>
    unfold retractSample
    split
    · exact win_enterIdle (h.1 (by simp [hp, Phase.inStroke]))
    · exact h
  case h_4 =>
    have hnil : s.win.openSet = [] := h.1 (by simp [hp, Phase.inStroke])
    refine win_strokeSample (s := beginApproach s) (win_none hnil ?_ ?_) rfl (hv (by simp [hp])) x gap
    all_goals simp [beginApproach]
  all_goals exact win_strokeSample h (by simp [hp, Phase.inStroke]) (hv (by simp [hp])) x gap

theorem win_receiveSample {s : State} (h : WindowsFollowStroke s)
    (hv : s.seq.phase ≠ .idle → s.profile.validate = none) (body : List Byte) (check : Word16) :
    WindowsFollowStroke (receiveSample body check s) := by
  unfold receiveSample
  split
  · split
    · exact win_congr h
    · split
      · exact win_congr h
      · rename_i gap _
        have accepted : WindowsFollowStroke (acceptSample (readSample body) gap s) := win_congr h
        have handled := win_sequence accepted hv (readSample body) gap
        simp only [handleSample]
        split <;> exact win_congr handled
  · exact h

theorem win_sensorDown {s : State} (h : WindowsFollowStroke s) : WindowsFollowStroke (sensorDown s) := by
  unfold sensorDown
  split <;> rename_i hp
  case h_5 => exact win_enterIdle (by simpa using h.1 (by simp [hp, Phase.inStroke]))
  case h_1 | h_2 | h_3 | h_4 => exact win_abort _ _ _
  all_goals exact win_congr h

theorem win_finishActive {s : State} (h : WindowsFollowStroke s) (idle : s.seq.phase = .idle) (slot : Nat)
    (intact : Bool) : WindowsFollowStroke (finishActive slot intact s) := by
  have hnil : s.win.openSet = [] := h.1 (by simp [idle, Phase.inStroke])
  simp only [finishActive]
  split
  · exact win_outside hnil (by simp [activate, idle, Phase.inStroke])
  · exact win_outside (by simpa using hnil) (by simp [idle, Phase.inStroke])

theorem win_finishStaged {s : State} (h : WindowsFollowStroke s) (htab : TablesFollowPhase s) (slot : Nat)
    (intact : Bool) : WindowsFollowStroke (finishStaged slot intact s) := by
  simp only [finishStaged]
  split
  · unfold stageReady
    split
    case isTrue swap =>
      have idle := (htab.2.1 swap).1
      exact win_outside (h.1 (by simp [idle, Phase.inStroke])) (by simp [idle, Phase.inStroke])
    case isFalse => exact win_congr h
  · exact win_congr h (active := by simp [failStaged, corruptSlot])

theorem win_arm {s : State} (h : WindowsFollowStroke s) (tag : List Byte) : WindowsFollowStroke (ownArm tag s).2 := by
  unfold ownArm
  split
  · exact h
  · exact win_outside rfl rfl

theorem win_disarm {s : State} (h : WindowsFollowStroke s) : WindowsFollowStroke (ownDisarm () s).2 := by
  unfold ownDisarm
  split <;> rename_i hp
  case h_1 => exact h
  case h_2 | h_3 | h_4 => exact win_enterIdle (h.1 (by simp [hp, Phase.inStroke]))
  all_goals exact win_enterIdle (by simp [abortBody, markAbort])

theorem win_resume {s : State} (h : WindowsFollowStroke s) (hl : LinesFollowPhase s) :
    WindowsFollowStroke (ownResume () s).2 := by
  unfold ownResume
  split
  case isFalse => exact h
  case isTrue held =>
    obtain ⟨-, closed, small, open_at⟩ := (windowsFollowStroke_iff s).1 h
    have from_phase := hl.2.2.2 held
    refine (windowsFollowStroke_iff _).2 ⟨fun hout => ?_, fun hseat => ?_, small, open_at⟩
    · rcases from_phase with hf | hf | hf <;> simp [resumeStroke, hf, Phase.inStroke] at hout
    · refine closed (.inr ⟨held, ?_⟩)
      rcases from_phase with hf | hf | hf <;> simp [resumeStroke, hf] at hseat ⊢

theorem win_select {s : State} (h : WindowsFollowStroke s) (slot : Nat) : WindowsFollowStroke (ownSelect slot s).2 := by
  unfold ownSelect
  split
  · exact h
  · split
    case h_4 =>
      split
      case isTrue idle =>
        have hout : s.seq.phase.inStroke = false := by simp [idle, Phase.inStroke]
        exact win_outside (h.1 hout) hout
      case isFalse => exact win_congr h rfl rfl rfl rfl rfl rfl
    all_goals exact h

theorem strokeStep_keeps_windows {s t : State} (hl : LinesFollowPhase s) (htab : TablesFollowPhase s)
    (hprof : ProfilesValidated s) (h : WindowsFollowStroke s) (step : StrokeStep s t) : WindowsFollowStroke t := by
  cases step with
  | same hst => exact win_sameStroke h hst
  | fresh load win seq hst => exact win_sameStroke (win_outside (by rw [win]) (by rw [seq]; rfl)) hst
  | sample body check => exact win_receiveSample h (profile_validated htab hprof) body check
  | sensorLost hst => exact win_sensorDown (win_sameStroke h hst)
  | stall running => exact win_abort _ _ _
  | activeLoad slot intact loading hs => exact win_finishActive h (htab.of_loading loading).1 slot intact
  | stagedLoad slot intact loading hs => exact win_finishStaged h htab slot intact
  | arm tag hst => exact win_sameStroke (win_arm h tag) hst
  | disarm hst => exact win_sameStroke (win_disarm h) hst
  | resume hst => exact win_sameStroke (win_resume h hl) hst
  | select slot hst => exact win_sameStroke (win_select h slot) hst

theorem step_keeps_windows {s t : State} (hl : LinesFollowPhase s) (htab : TablesFollowPhase s)
    (hprof : ProfilesValidated s) (h : WindowsFollowStroke s) (hstep : step s = .next t) : WindowsFollowStroke t := by
  obtain rfl | ⟨i, rest, hexec⟩ := step_cases hstep
  · exact h
  · refine strokeStep_keeps_windows ?_ ?_ ?_ ?_ (exec_strokeStep i _ t hexec)
    · exact lfp_congr hl rfl rfl
    · exact tab_eq htab rfl rfl rfl
    · exact prof_eq hprof rfl rfl
    · exact win_congr h

end Sys2Proof.Machine

/-! The capacities of the stroke's blocks: tare ring, failing list, stroke number and stroke sample count (02 R24, R25, R32,
R46; 03 R52, R68). -/

namespace Sys2Proof.Machine

/-! ### The failing list (03 R68) -/

theorem judgeAll_failList_le (img : Image) (jobs : List (Nat × Option Measure)) {w : WinState}
    (h : w.failList.length ≤ 48) : (judgeAll img jobs w).failList.length ≤ 48 := by
  induction jobs generalizing w with
  | nil => exact h
  | cons j jobs ih => exact ih (List.length_take_le _ _)

theorem windowWork_failList_le (img : Image) (x : Sample) (gap : Nat) (net : List Int) {w : WinState}
    (h : w.failList.length ≤ 48) : (windowWork img x gap net w).win.failList.length ≤ 48 := by
  simp only [windowWork]
  rw [openReached_eq img x.depth net _ _ _ rfl rfl]
  refine judgeAll_failList_le img _ ?_
  rw [closeEnded_eq]
  exact judgeAll_failList_le img _ h

/-! ### What the bound reads -/

/-- The collections and counters of the stroke within their capacities, with at most `n` samples counted. -/
structure StrokeBounds (n : Nat) (s : State) : Prop where
  tareRing : s.seq.tareRing.length ≤ 32
  failList : s.win.failList.length ≤ 48
  strokeNumber : s.seq.strokeNumber ≤ 4294967295
  sampleCount : s.seq.sampleCount ≤ n

/-- A stroke that goes on has counted at most 1,023 times 1,024 samples, one that has ended one more at most (02 R46). -/
def StrokeInBounds (s : State) : Prop :=
  StrokeBounds 1047553 s ∧ (s.seq.phase = .armed ∨ s.seq.phase.inStroke = true → s.seq.sampleCount ≤ 1047552)

section
variable {n : Nat} {s t : State}

theorem StrokeBounds.congr (h : StrokeBounds n s) (seq : t.seq = s.seq := by simp)
    (failList : t.win.failList = s.win.failList := by simp) : StrokeBounds n t := by
  obtain ⟨h1, h2, h3, h4⟩ := h
  exact ⟨by rwa [seq], by rwa [failList], by rwa [seq], by rwa [seq]⟩

theorem StrokeInBounds.congr (h : StrokeInBounds s) (seq : t.seq = s.seq := by simp)
    (failList : t.win.failList = s.win.failList := by simp) : StrokeInBounds t :=
  ⟨h.1.congr seq failList, by rw [seq]; exact h.2⟩

/-- Outside a stroke that goes on, the wider bound of the sample count is all there is. -/
theorem StrokeBounds.ended (h : StrokeBounds 1047553 s) (armed : s.seq.phase ≠ .armed)
    (hp : s.seq.phase.inStroke = false) : StrokeInBounds s := ⟨h, by simp [armed, hp]⟩

theorem StrokeBounds.goes_on (h : StrokeBounds 1047552 s) : StrokeInBounds s :=
  ⟨⟨h.tareRing, h.failList, h.strokeNumber, h.sampleCount.trans (by decide)⟩, fun _ => h.sampleCount⟩

/-! ### The operations -/

theorem StrokeBounds.abort (h : StrokeBounds n s) (r : AbortReason) (d : Detail) :
    StrokeBounds n (Machine.abort r d s) := by
  obtain ⟨h1, h2, h3, h4⟩ := h
  have hfail : (Machine.abort r d s).win.failList = s.win.failList := by simp [Machine.abort, abortBody, markAbort]
  constructor
  · rwa [abort_seq]
  · rwa [hfail]
  · rwa [abort_seq]
  · rwa [abort_seq]

/-- An aborted stroke has ended. -/
theorem StrokeBounds.aborted (h : StrokeBounds 1047553 s) (r : AbortReason) (d : Detail) :
    StrokeInBounds (Machine.abort r d s) := by
  refine (h.abort r d).ended ?_ ?_ <;> rw [abort_seq]
  · simp
  · rfl

theorem enterIdle_failList (s : State) : (enterIdle s).win.failList = s.win.failList := by
  simp only [enterIdle, loaderAtIdle]
  split <;> rfl

theorem StrokeBounds.enterIdle (h : StrokeBounds 1047553 s) : StrokeInBounds (Machine.enterIdle s) := by
  obtain ⟨h1, h2, h3, h4⟩ := h
  have bounds : StrokeBounds 1047553 (Machine.enterIdle s) := by
    constructor
    · rwa [enterIdle_seq]
    · rwa [enterIdle_failList]
    · rwa [enterIdle_seq]
    · rwa [enterIdle_seq]
  refine bounds.ended ?_ ?_ <;> rw [enterIdle_seq]
  · simp
  · rfl

theorem StrokeBounds.strokeDone (h : StrokeBounds n s) (depth : Nat) : StrokeBounds n (Machine.strokeDone depth s) := by
  obtain ⟨h1, h2, h3, h4⟩ := h
  constructor
  · rwa [strokeDone_seq]
  · simpa using h2
  · rwa [strokeDone_seq]
  · rwa [strokeDone_seq]

theorem StrokeBounds.seatTest (h : StrokeBounds n s) (x : Sample) : StrokeBounds n (Machine.seatTest x s) := by
  simp only [Machine.seatTest]
  split
  · split
    · exact h.strokeDone _
    · exact h.abort _ _
  · split
    · exact h.abort _ _
    · exact h

/-- A hold request changes neither counts nor rings. -/
theorem StrokeBounds.holdRequest (h : StrokeBounds n s) : StrokeBounds n (Machine.holdRequest s) := by
  obtain ⟨h1, h2, h3, h4⟩ := h
  unfold Machine.holdRequest
  split
  case h_1 | h_2 | h_3 => exact ⟨by simpa using h1, by simpa using h2, by simpa using h3, by simpa using h4⟩
  all_goals exact ⟨h1, h2, h3, h4⟩

theorem StrokeBounds.handToTriggers (h : StrokeBounds n s) (x : Sample) (adv : Bool) (cs : List Classified) :
    StrokeBounds n (Machine.handToTriggers x adv cs s).1 := by
  unfold Machine.handToTriggers
  split
  · simp only [triggerWork]
    split
    · exact StrokeBounds.holdRequest (h.congr rfl rfl)
    · exact h.congr rfl rfl
  · exact h

theorem StrokeBounds.engageWork (h : StrokeBounds n s) (x : Sample) (gap : Nat) :
    StrokeBounds n (Machine.engageWork x gap s).1 := by
  have report : StrokeBounds n (takeReport (windowReport x gap s).win s) :=
    ⟨h.tareRing, windowWork_failList_le _ _ _ _ h.failList, h.strokeNumber, h.sampleCount⟩
  simp only [Machine.engageWork]
  split
  · exact report.abort _ _
  · exact report.seatTest x

theorem StrokeBounds.phaseWork (h : StrokeBounds n s) (x : Sample) (gap : Nat) :
    StrokeBounds n (Machine.phaseWork x gap s).1 := by
  unfold Machine.phaseWork
  split
  case h_1 =>
    unfold approachWork
    split
    · have ring : (keepLast 32 (s.seq.tareRing ++ [{ depth := x.depth, raw := x.raw }])).length ≤ 32 := by
        simp [keepLast]; omega
      exact ⟨ring, h.failList, h.strokeNumber, h.sampleCount⟩
    · split
      · exact h.abort _ _
      · have contact : StrokeBounds n (takeContact x s) := ⟨h.tareRing, h.failList, h.strokeNumber, h.sampleCount⟩
        exact contact.engageWork x gap
  case h_2 | h_3 => exact h.engageWork x gap
  all_goals exact h

theorem StrokeBounds.moveSample (h : StrokeBounds n s) (x : Sample) (gap : Nat) :
    StrokeBounds n (Machine.moveSample x gap s).1 := by
  unfold Machine.moveSample
  split
  case h_1 | h_2 => exact h.abort _ _
  case h_3 => exact h.handToTriggers _ _ _
  case h_4 =>
    have advanced : StrokeBounds n (advance x.depth s) := ⟨h.tareRing, h.failList, h.strokeNumber, h.sampleCount⟩
    exact (advanced.phaseWork x gap).handToTriggers _ _ _

/-- A sample is counted; over the limit the stroke ends, and below it the count leaves room for one more (02 R29, R46). -/
theorem strokeSample_inBounds (h : StrokeBounds 1047552 s) (limit : s.dec.strokeLimit ≤ 1023) (x : Sample) (gap : Nat) :
    StrokeInBounds (strokeSample x gap s).1 := by
  obtain ⟨peak, hseq⟩ := takePeak_countSample_seq x s
  have counted : ∀ {n}, s.seq.sampleCount + 1 ≤ n → StrokeBounds n (takePeak x (countSample s)) := fun hn =>
    ⟨by rw [hseq]; exact h.tareRing, by simpa using h.failList, by rw [hseq]; exact h.strokeNumber, by rw [hseq]; exact hn⟩
  have ended : StrokeBounds 1047553 (takePeak x (countSample s)) := counted (Nat.succ_le_succ h.sampleCount)
  simp only [strokeSample]
  split
  · exact ended.aborted _ _
  · split
    · exact ended.aborted _ _
    case isFalse below =>
      have room : s.seq.sampleCount + 1 ≤ s.dec.strokeLimit * 1024 := by
        simpa [overLimit, hseq] using below
      exact ((counted (by omega)).moveSample x gap).goes_on

theorem StrokeInBounds.sequence (h : StrokeInBounds s) (limit : s.dec.strokeLimit ≤ 1023) (x : Sample) (gap : Nat) :
    StrokeInBounds (Machine.sequence x gap s).1 := by
  obtain ⟨bounds, going⟩ := h
  have running : s.seq.phase = .armed ∨ s.seq.phase.inStroke = true → StrokeBounds 1047552 s := fun hp =>
    ⟨bounds.tareRing, bounds.failList, bounds.strokeNumber, going hp⟩
  unfold Machine.sequence
  split <;> rename_i hp
  case h_1 | h_2 => exact ⟨bounds, going⟩
  case h_3 =>
    unfold retractSample
    split
    · exact bounds.enterIdle
    · exact ⟨bounds, going⟩
  case h_4 =>
    obtain ⟨h1, h2, h3, h4⟩ := running (.inl hp)
    exact strokeSample_inBounds (s := beginApproach s) ⟨h1, h2, h3, h4⟩ limit x gap
  all_goals exact strokeSample_inBounds (running (.inr (by rw [hp]; rfl))) limit x gap

theorem StrokeInBounds.receiveSample (h : StrokeInBounds s) (limit : s.dec.strokeLimit ≤ 1023) (body : List Byte)
    (check : Word16) : StrokeInBounds (Machine.receiveSample body check s) := by
  unfold Machine.receiveSample
  split
  · split
    · exact h.congr
    · split
      · exact h.congr
      · rename_i gap _
        have accepted : StrokeInBounds (acceptSample (readSample body) gap s) := h.congr
        have handled := accepted.sequence limit (readSample body) gap
        simp only [handleSample]
        split <;> exact handled.congr
  · exact h

theorem StrokeInBounds.sensorDown (h : StrokeInBounds s) : StrokeInBounds (Machine.sensorDown s) := by
  unfold Machine.sensorDown
  split
  case h_1 | h_2 | h_3 | h_4 => exact h.1.aborted _ _
  case h_5 => exact StrokeBounds.enterIdle h.1.congr
  all_goals exact h.congr

theorem StrokeInBounds.arm (h : StrokeInBounds s) (tag : List Byte) : StrokeInBounds (ownArm tag s).2 := by
  unfold ownArm
  split
  · exact h
  case h_2 passed =>
    obtain ⟨-, -, -, -, hne⟩ := armRefusal_eq_none passed
    have number : s.seq.strokeNumber + 1 ≤ 4294967295 := by have := h.1.strokeNumber; omega
    exact StrokeBounds.goes_on ⟨by simp [beginStroke], by simp [beginStroke], number, by simp [beginStroke]⟩

theorem StrokeInBounds.disarm (h : StrokeInBounds s) : StrokeInBounds (ownDisarm () s).2 := by
  unfold ownDisarm
  split
  case h_1 => exact h
  case h_2 | h_3 | h_4 => exact h.1.enterIdle
  all_goals
    obtain ⟨h1, h2, h3, h4⟩ := h.1.abort .disarm .absent
    exact StrokeBounds.enterIdle ⟨h1, h2, h3, h4⟩

theorem StrokeInBounds.resume (h : StrokeInBounds s) : StrokeInBounds (ownResume () s).2 := by
  unfold ownResume
  split
  case isTrue held =>
    have going := h.2 (.inr (by rw [held]; rfl))
    exact StrokeBounds.goes_on ⟨h.1.tareRing, h.1.failList, h.1.strokeNumber, going⟩
  case isFalse => exact h

theorem StrokeInBounds.select (h : StrokeInBounds s) (slot : Nat) : StrokeInBounds (ownSelect slot s).2 := by
  refine h.congr (by simp) ?_
  unfold ownSelect
  split
  · rfl
  · split
    case h_4 => split <;> rfl
    all_goals rfl

theorem StrokeInBounds.finishActive (h : StrokeInBounds s) (slot : Nat) (intact : Bool) :
    StrokeInBounds (Machine.finishActive slot intact s) := by
  simp only [Machine.finishActive]
  split
  · exact h.congr rfl rfl
  · exact h.congr

theorem StrokeInBounds.finishStaged (h : StrokeInBounds s) (slot : Nat) (intact : Bool) :
    StrokeInBounds (Machine.finishStaged slot intact s) := by
  simp only [Machine.finishStaged]
  split
  · unfold stageReady
    split <;> exact h.congr rfl rfl
  · exact h.congr

theorem StrokeInBounds.sameStroke (h : StrokeInBounds s) (hst : SameStroke s t) : StrokeInBounds t :=
  h.congr hst.seq (by rw [hst.win])

theorem strokeStep_keeps_strokeBounds (limit : s.dec.strokeLimit ≤ 1023) (h : StrokeInBounds s) (step : StrokeStep s t) :
    StrokeInBounds t := by
  cases step with
  | same hst => exact h.sameStroke hst
  | fresh load win seq hst =>
    refine StrokeInBounds.sameStroke (StrokeBounds.goes_on ⟨?_, ?_, ?_, ?_⟩) hst <;> simp [seq, win]
  | sample body check => exact h.receiveSample limit body check
  | sensorLost hst => exact (h.sameStroke hst).sensorDown
  | stall running => exact h.1.aborted _ _
  | activeLoad slot intact loading hs => exact h.finishActive slot intact
  | stagedLoad slot intact loading hs => exact h.finishStaged slot intact
  | arm tag hst => exact (h.arm tag).sameStroke hst
  | disarm hst => exact h.disarm.sameStroke hst
  | resume hst => exact h.resume.sameStroke hst
  | select slot hst => exact (h.select slot).sameStroke hst

end

end Sys2Proof.Machine

/-! The capacities of the other blocks: triggers, capture, ports, store and settings (05 R90; 06 R107; 08 R138, R142, R151;
09 R164, R166, R172; 10 R186), and with the stroke's own the bounds of the whole part. -/

namespace Sys2Proof.Machine

/-! ### The bounds, block by block -/

structure CapBounds (c : CapState) : Prop where
  ring : c.ring.length ≤ 512
  countdown : c.countdown ≤ 511
  missed : c.missed ≤ 65535

structure SnsBounds (n : SnsState) : Prop where
  bad : n.bad ≤ 65535
  missing : n.missing ≤ 4294967295
  stale : n.stale ≤ 4294967295

structure CtlBounds (c : CtlState) : Prop where
  bad : c.bad ≤ 65535
  waitList : c.waitList.length ≤ 8

/-- An image that a slot holds has no more records than a profile can have (01 R1). -/
def SlotContent.Fits (c : SlotContent) : Prop :=
  ∀ img k, c = .image img k → img.groups.length ≤ 96 ∧ img.pins.length ≤ 640

structure StoreBounds (st : StoreState) : Prop where
  slots : st.slots.length = 24
  directory : st.directory.length = 24
  lower : st.lockLower ≤ 23
  upper : st.lockUpper ≤ 23
  groups : st.buffer.groups.length = 96
  pins : st.buffer.pins.length = 640
  images : ∀ c ∈ st.slots, c.Fits

structure DecBounds (d : DecState) : Prop where
  limitLow : 1 ≤ d.strokeLimit
  limitHigh : d.strokeLimit ≤ 1023
  stall : d.stallTimeout ≤ 255
  post : d.postCount ≤ 511

/-- The blocks that take no part in a stroke of themselves, within their capacities. -/
structure BlockBounds (s : State) : Prop where
  trig : s.trig.length = 4
  cap : CapBounds s.cap
  sns : SnsBounds s.sns
  ctl : CtlBounds s.ctl
  store : StoreBounds s.store
  dec : DecBounds s.dec

theorem withinBounds_iff (s : State) : WithinBounds s ↔ StrokeInBounds s ∧ BlockBounds s := by
  have images : (∀ c ∈ s.store.slots, c.Fits)
      ↔ ∀ img k, SlotContent.image img k ∈ s.store.slots → img.groups.length ≤ 96 ∧ img.pins.length ≤ 640 :=
    ⟨fun h img k hm => h _ hm img k rfl, fun h c hm img k hc => h img k (hc ▸ hm)⟩
  constructor
  · rintro ⟨tare, fail, trig, ring, countdown, missed, sbad, cbad, wait, slots, dir, lower, upper, lim1, lim2, stall, post,
      number, missing, stale, count, going, groups, pins, imgs⟩
    exact ⟨⟨⟨tare, fail, number, count⟩, going⟩, trig, ⟨ring, countdown, missed⟩, ⟨sbad, missing, stale⟩, ⟨cbad, wait⟩,
      ⟨slots, dir, lower, upper, groups, pins, images.2 imgs⟩, ⟨lim1, lim2, stall, post⟩⟩
  · rintro ⟨⟨⟨tare, fail, number, count⟩, going⟩, trig, ⟨ring, countdown, missed⟩, ⟨sbad, missing, stale⟩, ⟨cbad, wait⟩,
      ⟨slots, dir, lower, upper, groups, pins, imgs⟩, ⟨lim1, lim2, stall, post⟩⟩
    exact ⟨tare, fail, trig, ring, countdown, missed, sbad, cbad, wait, slots, dir, lower, upper, lim1, lim2, stall, post,
      number, missing, stale, count, going, groups, pins, images.1 imgs⟩

/-- Each block keeps its bound; a block that stands keeps it by the laws of what the operation leaves. -/
theorem BlockBounds.change {s t : State} (h : BlockBounds s) (trig : t.trig.length = s.trig.length := by simp)
    (cap : CapBounds s.cap → CapBounds t.cap := by simp) (sns : SnsBounds s.sns → SnsBounds t.sns := by simp)
    (ctl : CtlBounds s.ctl → CtlBounds t.ctl := by simp) (store : StoreBounds s.store → StoreBounds t.store := by simp)
    (dec : DecBounds s.dec → DecBounds t.dec := by simp) : BlockBounds t :=
  ⟨trig.trans h.trig, cap h.cap, sns h.sns, ctl h.ctl, store h.store, dec h.dec⟩

/-! ### Taking a command (09 R172; 10 R182) -/

/-- Taking the next command only shortens the wait list and fills the hand. -/
theorem promote_spec (cs : List Command) (s : State) : (promote cs s).ctl.bad = s.ctl.bad
    ∧ (promote cs s).ctl.waitList.length ≤ cs.length ∧ ∃ hand, (promote cs s).dec = { s.dec with hand := hand } := by
  induction cs generalizing s with
  | nil => exact ⟨rfl, le_rfl, _, rfl⟩
  | cons c cs ih =>
    unfold promote
    split
    · exact ⟨rfl, by simp, _, rfl⟩
    · obtain ⟨bad, wait, hand, dec⟩ := ih (respond c { result := .unknown } s)
      exact ⟨by simpa using bad, by simp; omega, hand, by simpa using dec⟩

theorem BlockBounds.settleHand {s : State} (h : BlockBounds s) : BlockBounds (Machine.settleHand s) := by
  unfold Machine.settleHand
  split
  · exact h
  · obtain ⟨bad, wait, hand, dec⟩ := promote_spec s.ctl.waitList s
    refine h.change (ctl := fun hc => ⟨?_, ?_⟩) (dec := fun hd => ?_)
    · rw [bad]; exact hc.bad
    · exact wait.trans hc.waitList
    · rw [dec]; exact ⟨hd.limitLow, hd.limitHigh, hd.stall, hd.post⟩

theorem BlockBounds.answered {s : State} (h : BlockBounds s) (c : Command) (r : Reply) :
    BlockBounds (Machine.answered c r s) := by
  have responded : BlockBounds (respond c r s) := h.change
  exact (responded.change (t := { respond c r s with dec := { (respond c r s).dec with hand := none } })
    (dec := fun ⟨low, high, stall, post⟩ => ⟨low, high, stall, post⟩)).settleHand

theorem BlockBounds.command {α : Type} {n : Nat} {always : Bool} {parse : List Byte → Option α}
    {owner : α → State → Reply × State} {s : State} (h : BlockBounds s) (ho : ∀ a, BlockBounds (owner a s).2) :
    BlockBounds (runCommand n always parse owner s) :=
  runCommand_cases _ h (fun c r _ ht => ht.answered c r) ho

theorem BlockBounds.guarded {s u : State} {b : Bool} (h : BlockBounds s) (hu : BlockBounds u) :
    BlockBounds (if b = true then u else s) := by
  split
  · exact hu
  · exact h

/-! ### Samples -/

theorem handToTriggers_trig_length (x : Sample) (adv : Bool) (cs : List Classified) (s : State) :
    (handToTriggers x adv cs s).1.trig.length = s.trig.length := by
  unfold handToTriggers
  split
  · simp only [triggerWork]
    split <;> simp
  · rfl

theorem strokeSample_trig_length (x : Sample) (gap : Nat) (s : State) :
    (strokeSample x gap s).1.trig.length = s.trig.length := by
  simp only [strokeSample]
  split
  · simp
  · split
    · simp
    · unfold moveSample
      split <;> simp [handToTriggers_trig_length]

theorem sequence_trig_length (x : Sample) (gap : Nat) (s : State) : (sequence x gap s).1.trig.length = s.trig.length := by
  unfold sequence
  split
  case h_1 | h_2 => rfl
  case h_3 => simp
  case h_4 => exact strokeSample_trig_length x gap (beginApproach s)
  all_goals exact strokeSample_trig_length x gap s

theorem CapBounds.push {c : CapState} (h : CapBounds c) (e : HistEntry) : CapBounds (pushHistory e c) := by
  obtain ⟨ring, countdown, missed⟩ := h
  unfold pushHistory
  split
  · exact ⟨by simp; omega, countdown, missed⟩
  · exact ⟨by simp; omega, countdown, missed⟩

theorem freeze_cap (s : State) :
    (freeze s).cap = { s.cap with state := .frozen, countdown := 0, trigOffset := s.cap.trigPos } := by simp [freeze]

theorem CapBounds.freeze {s : State} (h : CapBounds s.cap) : CapBounds (Machine.freeze s).cap := by
  rw [freeze_cap]
  exact ⟨h.ring, Nat.zero_le _, h.missed⟩

theorem CapBounds.recordSample {s : State} (h : CapBounds s.cap) (e : HistEntry) :
    CapBounds (Machine.recordSample e s).cap := by
  have pushed := h.push e
  unfold Machine.recordSample
  split
  · exact pushed
  · have counted : CapBounds { pushHistory e s.cap with countdown := (pushHistory e s.cap).countdown - 1 } :=
      ⟨pushed.ring, (Nat.sub_le _ _).trans pushed.countdown, pushed.missed⟩
    simp only
    split
    · exact CapBounds.freeze counted
    · exact counted
  · exact h

theorem CapBounds.captureRequest {s : State} (h : CapBounds s.cap) (post : s.dec.postCount ≤ 511) :
    CapBounds (Machine.captureRequest s).cap := by
  obtain ⟨ring, countdown, missed⟩ := h
  unfold Machine.captureRequest
  split
  · simp only
    split
    · exact CapBounds.freeze ⟨ring, countdown, missed⟩
    · exact ⟨ring, post, missed⟩
  all_goals exact ⟨ring, countdown, Nat.min_le_left _ _⟩

theorem BlockBounds.receiveSample {s : State} (h : BlockBounds s) (body : List Byte) (check : Word16) :
    BlockBounds (Machine.receiveSample body check s) := by
  unfold Machine.receiveSample
  split
  · split
    · exact h.change (sns := fun hn => ⟨Nat.min_le_left _ _, hn.missing, hn.stale⟩)
    · split
      · refine h.change (sns := fun hn => ?_)
        simp only [staleSample, forward_frame, raise_frame]
        exact ⟨hn.bad, hn.missing, Nat.min_le_left _ _⟩
      · rename_i gap _
        have accepted : BlockBounds (acceptSample (readSample body) gap s) :=
          h.change (sns := fun hn => ⟨hn.bad, Nat.min_le_left _ _, hn.stale⟩)
        have sequenced : BlockBounds (sequence (readSample body) gap (acceptSample (readSample body) gap s)).1 :=
          accepted.change (trig := sequence_trig_length _ _ _)
        have recorded := sequenced.change (cap := fun hc =>
          hc.recordSample (histEntry (readSample body)
            (sequence (readSample body) gap (acceptSample (readSample body) gap s)).1.seq.phase))
        simp only [handleSample]
        split
        · exact (recorded.change (cap := fun hc => hc.captureRequest recorded.dec.post)).change
        · exact recorded.change
  · exact h

theorem BlockBounds.receiveForward {s : State} (h : BlockBounds s) (f : Frame) :
    BlockBounds (Machine.receiveForward f s) := by
  unfold Machine.receiveForward
  split
  · exact h.receiveSample _ _
  · split
    · split
      · exact h.change (sns := fun hn => ⟨Nat.min_le_left _ _, hn.missing, hn.stale⟩)
      · exact h.change
    · exact h

/-! ### The return lane and the ports -/

theorem BlockBounds.countControllerBad {s : State} (h : BlockBounds s) : BlockBounds (Machine.countControllerBad s) :=
  h.change (ctl := fun hc => ⟨Nat.min_le_left _ _, hc.waitList⟩)

theorem BlockBounds.consume {s : State} (h : BlockBounds s) (c : Command) : BlockBounds (Machine.consume c s) := by
  unfold Machine.consume
  split
  · refine (h.change (t := { s with ctl := { s.ctl with waitList := s.ctl.waitList ++ [c] } })
      (ctl := fun hc => ⟨hc.bad, ?_⟩)).settleHand
    simp; omega
  · exact h.countControllerBad

theorem BlockBounds.passThrough {s : State} (h : BlockBounds s) (f : Frame) : BlockBounds (Machine.passThrough f s) :=
  h.change

theorem BlockBounds.receiveReturn {s : State} (h : BlockBounds s) (f : Frame) :
    BlockBounds (Machine.receiveReturn f s) := by
  unfold Machine.receiveReturn
  split
  · split
    · exact h.countControllerBad
    · split
      · simp only [routeCommand]
        split
        · exact (h.passThrough f).consume _
        · split
          · exact h.consume _
          · exact h.passThrough f
      · exact h.passThrough f
  · exact h

theorem BlockBounds.setPort {s : State} (h : BlockBounds s) (p : Port) (ps : PortState) :
    BlockBounds (Machine.setPort p ps s) := by
  cases p <;> simp only [Machine.setPort]
  case sensor => exact h.change (sns := fun ⟨bad, missing, stale⟩ => ⟨bad, missing, stale⟩)
  case controller => exact h.change (ctl := fun ⟨bad, waitList⟩ => ⟨bad, waitList⟩)

theorem BlockBounds.movePort {s : State} (h : BlockBounds s) (p : Port) (was becomes : PortState) :
    BlockBounds (Machine.movePort p was becomes s) := h.guarded (h.setPort p becomes)

theorem BlockBounds.portUp {s : State} (h : BlockBounds s) (p : Port) : BlockBounds (Machine.portUp p s) := by
  cases p <;> simp only [Machine.portUp]
  case sensor => exact h.change (sns := fun ⟨bad, missing, stale⟩ => ⟨bad, missing, stale⟩)
  case controller =>
    have up : BlockBounds { s with ctl := { s.ctl with port := .up } } := h.setPort .controller .up
    exact up.change

theorem BlockBounds.loseSensor {s : State} (h : BlockBounds s) (arriving passing : Bool) :
    BlockBounds (Machine.loseSensor arriving passing s) := by
  refine h.change (sns := fun ⟨bad, missing, stale⟩ => ?_)
  simp only [Machine.loseSensor, sensorDown_frame]
  split
  · exact ⟨Nat.min_le_left _ _, missing, stale⟩
  · exact ⟨bad, missing, stale⟩

theorem BlockBounds.loseController {s : State} (h : BlockBounds s) (arriving : Bool) :
    BlockBounds (Machine.loseController arriving s) := by
  refine h.change (ctl := fun ⟨bad, waitList⟩ => ?_)
  simp only [Machine.loseController, raise_frame]
  split
  · exact ⟨Nat.min_le_left _ _, by simpa [Machine.countControllerBad] using waitList⟩
  · exact ⟨by simpa using bad, by simpa using waitList⟩

/-! ### The store (08) -/

theorem SlotContent.fits_broken : SlotContent.broken.Fits := fun _ _ h => nomatch h
theorem SlotContent.fits_erased : SlotContent.erased.Fits := fun _ _ h => nomatch h

theorem SlotContent.Fits.found {c : SlotContent} (h : c.Fits) (intact : Bool) : (c.found intact).Fits := by
  cases intact
  · exact SlotContent.fits_broken
  · exact h

theorem SlotContent.Fits.checked {c : SlotContent} (h : c.Fits) {img : Image} (hc : c.checked = some img) :
    img.groups.length ≤ 96 ∧ img.pins.length ≤ 640 := by
  cases c with
  | image i k =>
    simp only [SlotContent.checked, Option.ite_none_right_eq_some, Option.some.injEq] at hc
    exact h img k (by rw [hc.2])
  | erased | broken => exact nomatch hc

theorem SlotContent.fits_content {s : State} (h : ∀ c ∈ s.store.slots, c.Fits) (slot : Nat) : (s.content slot).Fits := by
  unfold State.content
  by_cases hn : slot < s.store.slots.length
  · rw [List.getD_eq_getElem _ _ hn]; exact h _ (List.getElem_mem _)
  · rw [List.getD_eq_default _ _ (by omega)]; exact SlotContent.fits_erased

section
variable {s : State}

theorem StoreBounds.setContent (h : StoreBounds s.store) (slot : Nat) {c : SlotContent} (hc : c.Fits) :
    StoreBounds (Machine.setContent slot c s).store := by
  obtain ⟨slots, directory, lower, upper, groups, pins, images⟩ := h
  refine ⟨by simpa [Machine.setContent] using slots, directory, lower, upper, groups, pins, fun d hd => ?_⟩
  rcases List.mem_or_eq_of_mem_set hd with hd | rfl
  · exact images d hd
  · exact hc

theorem StoreBounds.setDirectory (h : StoreBounds s.store) (slot : Nat) (d : SlotState) :
    StoreBounds (Machine.setDirectory slot d s).store := by
  obtain ⟨slots, directory, lower, upper, groups, pins, images⟩ := h
  exact ⟨slots, by simpa [Machine.setDirectory] using directory, lower, upper, groups, pins, images⟩

theorem StoreBounds.setNvOp (h : StoreBounds s.store) (op : Option NvOp) : StoreBounds (Machine.setNvOp op s).store := by
  obtain ⟨slots, directory, lower, upper, groups, pins, images⟩ := h
  exact ⟨slots, directory, lower, upper, groups, pins, images⟩

theorem StoreBounds.setBuffer (h : StoreBounds s.store) {img : Image} (hg : img.groups.length = 96)
    (hp : img.pins.length = 640) : StoreBounds (Machine.setBuffer img s).store := by
  obtain ⟨slots, directory, lower, upper, -, -, images⟩ := h
  exact ⟨slots, directory, lower, upper, hg, hp, images⟩

theorem StoreBounds.nvFinish (h : StoreBounds s.store) (slot : Option Nat) (ok : Bool) (fault : Option Nat) :
    StoreBounds (Machine.nvFinish slot ok fault s).store := by
  rw [nvFinish_store]
  exact h.setNvOp none

theorem StoreBounds.lockAll (h : StoreBounds s.store) : StoreBounds (Machine.lockAll s).store := by
  obtain ⟨slots, directory, -, -, groups, pins, images⟩ := h
  exact ⟨slots, directory, by simp [Machine.lockAll], by simp [Machine.lockAll], groups, pins, images⟩

/-- A cut operation changes the protect bits and ends (08 R141). -/
theorem StoreBounds.cutOperation (h : StoreBounds s.store) : StoreBounds (Machine.cutOperation s).store := by
  obtain ⟨slots, directory, lower, upper, groups, pins, images⟩ := h
  exact ⟨slots, directory, lower, upper, groups, pins, images⟩

theorem StoreBounds.corruptSlot (h : StoreBounds s.store) (slot : Nat) {c : SlotContent} (hc : c.Fits) :
    StoreBounds (Machine.corruptSlot slot c s).store := (h.setContent slot hc).setDirectory slot .corrupt

theorem StoreBounds.stopWrite (h : StoreBounds s.store) : StoreBounds (Machine.stopWrite s).store := by
  unfold Machine.stopWrite
  split
  case h_1 slot _ | h_2 slot _ => exact (h.corruptSlot slot SlotContent.fits_broken).nvFinish _ _ _
  case h_3 | h_4 => exact h.nvFinish _ _ _
  all_goals exact h

theorem StoreBounds.lockOnFall (h : StoreBounds s.store) : StoreBounds (Machine.lockOnFall s).store := by
  unfold Machine.lockOnFall
  split
  · exact h
  · exact h.lockAll

theorem StoreBounds.finishCommit (h : StoreBounds s.store) (slot : Nat) (took : Bool) :
    StoreBounds (Machine.finishCommit slot took s).store := by
  have written : s.store.buffer.written.Fits := by
    intro img k hw
    obtain ⟨rfl, -⟩ := SlotContent.image.inj hw
    have := h.groups
    have := h.pins
    simp only [Image.stored, Image.liveGroups, Image.livePins, List.length_take]
    omega
  simp only [Machine.finishCommit]
  split
  · exact ((h.setContent slot (written.found took)).setDirectory slot _).nvFinish _ _ _
  · exact (h.corruptSlot slot (written.found took)).nvFinish _ _ _

theorem StoreBounds.finishErase (h : StoreBounds s.store) (slot : Nat) (took : Bool) :
    StoreBounds (Machine.finishErase slot took s).store := by
  unfold Machine.finishErase
  split
  · exact ((h.setContent slot SlotContent.fits_erased).setDirectory slot _).nvFinish _ _ _
  · exact (h.corruptSlot slot SlotContent.fits_broken).nvFinish _ _ _

theorem StoreBounds.finishProtect (h : StoreBounds s.store) (slot : Option Nat) (intended readBack : BitVec 24) :
    StoreBounds (Machine.finishProtect slot intended readBack s).store := by
  obtain ⟨slots, directory, lower, upper, groups, pins, images⟩ := h
  exact StoreBounds.nvFinish (s := { s with store := { s.store with protect := readBack } })
    ⟨slots, directory, lower, upper, groups, pins, images⟩ _ _ _

theorem Image.cleared_groups : Image.cleared.groups.length = 96 := List.length_replicate
theorem Image.cleared_pins : Image.cleared.pins.length = 640 := List.length_replicate

theorem padTo_length {α : Type} {n : Nat} (a : α) {xs : List α} (h : xs.length ≤ n) : (padTo n a xs).length = n := by
  simp [padTo]; omega

theorem StoreBounds.finishEditLoad (h : StoreBounds s.store) (slot : Nat) (intact : Bool) :
    StoreBounds (Machine.finishEditLoad slot intact s).store := by
  have fits := (SlotContent.fits_content h.images slot).found intact
  simp only [Machine.finishEditLoad]
  split
  case h_1 img hc =>
    obtain ⟨hg, hp⟩ := fits.checked hc
    exact (h.setBuffer (img := img.padded) (padTo_length _ hg) (padTo_length _ hp)).nvFinish _ _ _
  case h_2 => exact ((h.corruptSlot slot fits).setBuffer Image.cleared_groups Image.cleared_pins).nvFinish _ _ _

theorem StoreBounds.finishActive (h : StoreBounds s.store) (slot : Nat) (intact : Bool) :
    StoreBounds (Machine.finishActive slot intact s).store := by
  simp only [Machine.finishActive]
  split
  · exact h
  · simp only [failActive, raise_frame]
    exact h.corruptSlot slot ((SlotContent.fits_content h.images slot).found intact)

theorem StoreBounds.finishStaged (h : StoreBounds s.store) (slot : Nat) (intact : Bool) :
    StoreBounds (Machine.finishStaged slot intact s).store := by
  simp only [Machine.finishStaged]
  split
  · simpa using h
  · simp only [failStaged, raise_frame]
    exact h.corruptSlot slot ((SlotContent.fits_content h.images slot).found intact)

theorem scanSlots_length (changed : BitVec 24) (i : Nat) (cs : List SlotContent) :
    (scanSlots changed i cs).length = cs.length := by
  induction cs generalizing i with
  | nil => rfl
  | cons c cs ih => simp [scanSlots, ih]

theorem scanSlots_fits (changed : BitVec 24) (i : Nat) (cs : List SlotContent) (h : ∀ c ∈ cs, c.Fits) :
    ∀ c ∈ scanSlots changed i cs, c.Fits := by
  induction cs generalizing i with
  | nil => simp [scanSlots]
  | cons c cs ih =>
    obtain ⟨hc, hcs⟩ := List.forall_mem_cons.mp h
    exact List.forall_mem_cons.mpr ⟨hc.found _, ih (i + 1) hcs⟩

end

end Sys2Proof.Machine

/-! The capacities through every row, and the bounds of the whole part. -/

namespace Sys2Proof.Machine

/-! ### The owners of the commands -/

section
variable {s : State}

/-- A new buffer of the buffer's size keeps the bounds (08 R142). -/
theorem BlockBounds.editReply (h : BlockBounds s) {img : Image} (hg : img.groups.length = 96) (hp : img.pins.length = 640) :
    BlockBounds (Machine.editReply img s).2 := by
  unfold Machine.editReply
  split
  · exact h
  · exact h.change (store := fun hs => hs.setBuffer hg hp)

theorem setRun_length {α : Type} (i : Nat) (rs xs : List α) : (setRun i rs xs).length = xs.length := by
  induction rs generalizing i xs with
  | nil => rfl
  | cons r rs ih => simp [setRun, ih]

theorem BlockBounds.putPins (h : BlockBounds s) (a : Nat × List PinRec) : BlockBounds (ownPutPins a s).2 := by
  simp only [ownPutPins]
  split
  · exact h
  · split
    · exact h
    · exact h.change (store := fun hs => hs.setBuffer hs.groups ((setRun_length _ _ _).trans hs.pins))

theorem clearFrom_length {α : Type} (n : Nat) (a : α) (xs : List α) : (clearFrom n a xs).length = xs.length := by
  simp [clearFrom]; omega

theorem BlockBounds.editLoad (h : BlockBounds s) (slot : Nat) : BlockBounds (ownEditLoad slot s).2 := by
  unfold ownEditLoad
  split
  · exact h
  · split
    case h_4 => exact h.change (store := fun hs => hs.setNvOp _)
    all_goals exact h

theorem BlockBounds.startWrite (h : BlockBounds s) (op : NvOp) (slot : Nat) :
    BlockBounds (Machine.startWrite op slot s).2 := by
  unfold Machine.startWrite
  split
  · exact h
  · exact h.change (store := fun hs => ((hs.setContent slot SlotContent.fits_broken).setDirectory slot _).setNvOp _)

theorem BlockBounds.commit (h : BlockBounds s) (slot : Nat) : BlockBounds (ownCommit slot s).2 := by
  unfold ownCommit
  split
  · exact h
  · split
    · exact h
    · exact h.startWrite _ slot

/-- LOCK RANGE sets bounds that name a slot (08 R151, R152). -/
theorem BlockBounds.lockRange (h : BlockBounds s) (a : Nat × Nat × Bool) : BlockBounds (ownLockRange a s).2 := by
  unfold ownLockRange
  split
  · exact h
  case isFalse inRange =>
    obtain ⟨lower, upper⟩ : a.1 ≤ 23 ∧ a.2.1 ≤ 23 := by omega
    have ranged : BlockBounds
        { s with store := { s.store with lockLower := a.1, lockUpper := a.2.1, invert := a.2.2 } } :=
      h.change (store := fun ⟨slots, directory, _, _, groups, pins, images⟩ =>
        ⟨slots, directory, lower, upper, groups, pins, images⟩)
    iterate 4
      split
      · exact h
    exact ranged

theorem BlockBounds.protect (h : BlockBounds s) (svc : Bool) (slot : Nat) : BlockBounds (ownProtect svc slot s).2 := by
  unfold ownProtect
  iterate 4
    split
    · exact h
  exact h.change (store := fun hs => hs.setNvOp _)

theorem BlockBounds.clearProtect (h : BlockBounds s) (svc : Bool) : BlockBounds (ownClearProtect svc () s).2 := by
  unfold ownClearProtect
  iterate 3
    split
    · exact h
  exact h.change (store := fun hs => hs.setNvOp _)

theorem BlockBounds.captureNow (h : BlockBounds s) : BlockBounds (ownCaptureNow () s).2 :=
  h.change (cap := fun hc => hc.captureRequest h.dec.post)

theorem BlockBounds.releaseCapture (h : BlockBounds s) : BlockBounds (ownReleaseCapture () s).2 := by
  refine h.change (cap := fun ⟨ring, countdown, missed⟩ => ?_)
  simp only [ownReleaseCapture, Machine.releaseCapture]
  split
  · exact ⟨ring, countdown, missed⟩
  · exact ⟨ring, Nat.zero_le _, missed⟩
  · exact ⟨ring, countdown, missed⟩

/-- Every setting is applied within its range (10 R187). -/
theorem BlockBounds.setSetting (h : BlockBounds s) (a : Setting × Nat) : BlockBounds (ownSetSetting a s).2 := by
  obtain ⟨k, v⟩ := a
  refine h.change (dec := fun ⟨low, high, stall, post⟩ => ?_)
  cases k <;> simp only [ownSetSetting, applySetting, clampSetting]
  case strokeLimit => exact ⟨Nat.le_max_left _ _, max_le (by decide) (Nat.min_le_left _ _), stall, post⟩
  case stallTimeout => exact ⟨low, high, Nat.min_le_left _ _, post⟩
  case postCount => exact ⟨low, high, stall, Nat.min_le_left _ _⟩
  all_goals exact ⟨low, high, stall, post⟩

theorem BlockBounds.arm (h : BlockBounds s) (tag : List Byte) : BlockBounds (ownArm tag s).2 := by
  unfold ownArm
  split
  · exact h
  · exact h.change (sns := fun hn => ⟨hn.bad, Nat.zero_le _, Nat.zero_le _⟩)

theorem BlockBounds.resume (h : BlockBounds s) : BlockBounds (ownResume () s).2 := by
  unfold ownResume
  split
  · exact h.change (trig := by simp [resumeStroke])
  · exact h

/-! ### Power-on values (08 R140; 10 R192) -/

theorem capBounds_fresh : CapBounds {} := by constructor <;> simp
theorem snsBounds_fresh : SnsBounds {} := by constructor <;> simp
theorem ctlBounds_fresh : CtlBounds {} := by constructor <;> simp
theorem decBounds_fresh : DecBounds {} := by constructor <;> simp

theorem BlockBounds.powerUp (h : BlockBounds s) (locken : Bool) (addr : BitVec 6) :
    BlockBounds (Machine.powerUp locken addr s) :=
  ⟨List.length_replicate, capBounds_fresh, snsBounds_fresh, ctlBounds_fresh,
    ⟨h.store.slots, List.length_replicate, Nat.zero_le _, le_rfl, Image.cleared_groups, Image.cleared_pins,
      h.store.images⟩, decBounds_fresh⟩

theorem BlockBounds.softReset (h : BlockBounds s) : BlockBounds (Machine.softReset s) :=
  ⟨List.length_replicate, capBounds_fresh, ⟨h.sns.bad, Nat.zero_le _, Nat.zero_le _⟩, h.ctl,
    h.store.setBuffer Image.cleared_groups Image.cleared_pins,
    ⟨decBounds_fresh.limitLow, decBounds_fresh.limitHigh, decBounds_fresh.stall, decBounds_fresh.post⟩⟩

theorem BlockBounds.resetUnit (h : BlockBounds s) : BlockBounds (ownResetUnit () s).2 := by
  unfold ownResetUnit
  split
  · exact h
  · split
    · exact h
    · exact h.softReset

/-! ### Every row -/

theorem BlockBounds.cutOperation (h : BlockBounds s) : BlockBounds (Machine.cutOperation s) :=
  h.change (store := fun hs => hs.cutOperation)

theorem BlockBounds.scanDone (h : BlockBounds s) (changed : BitVec 24) :
    let slots := scanSlots changed 0 s.store.slots
    BlockBounds { s with store := { s.store with
      slots := slots, directory := slots.map SlotContent.judged, scanRunning := false } } := by
  refine h.change (store := fun ⟨slots, _, lower, upper, groups, pins, images⟩ =>
    ⟨?_, ?_, lower, upper, groups, pins, scanSlots_fits _ _ _ images⟩)
  · simpa [scanSlots_length] using slots
  · simpa [scanSlots_length] using slots

theorem exec_keeps_blockBounds (i : Instr) (h : BlockBounds s) : ∀ t, exec i s = .next t → BlockBounds t := by
  cases i with
  | powerOn nrst wp locken addr =>
    refine of_exec_next rfl ?_
    split
    · exact h
    · exact BlockBounds.powerUp h.change locken addr
  | nrstLow => exact of_exec_next rfl (h.guarded h.cutOperation.change)
  | nrstRise locken addr => exact of_exec_next rfl (h.guarded (BlockBounds.powerUp h.change locken addr))
  | powerOff =>
    refine of_exec_next rfl (h.guarded ((h.cutOperation.powerUp s.lockenHigh s.unitAddr).change (store := ?_)))
    exact fun ⟨slots, directory, lower, upper, groups, pins, images⟩ =>
      ⟨slots, directory, lower, upper, groups, pins, images⟩
  | powerOnScanDone changed => exact of_exec_next rfl (h.guarded (h.scanDone changed))
  | sampleFrame body check => exact of_exec_next rfl (h.receiveSample body check)
  | forwardFrame f => exact of_exec_next rfl (h.receiveForward f)
  | commandFrame body check => exact of_exec_next rfl (h.receiveReturn _)
  | returnFrame f => exact of_exec_next rfl (h.receiveReturn f)
  | transmitFrame | frameSent | wpRise => exact of_exec_next rfl h.change
  | dropReport => exact of_exec_next rfl (h.guarded h.change)
  | idlePatternSeen p | trainingLost p => exact of_exec_next rfl (h.movePort p _ _)
  | trainingComplete p => exact of_exec_next rfl (h.guarded (h.portUp p))
  | sensorPortLoss arriving passing => exact of_exec_next rfl (h.guarded (h.loseSensor arriving passing))
  | controllerPortLoss arriving => exact of_exec_next rfl (h.guarded (h.loseController arriving))
  | stall => exact of_exec_next rfl h.change
  | tooLong body check | captureFreeze body check => exact of_exec_next rfl (h.guarded (h.receiveSample body check))
  | controllerPortBadFrame f => exact of_exec_next rfl (h.guarded h.countControllerBad)
  | commitDone took =>
    refine of_exec_next rfl ?_
    split
    · exact h.guarded (h.change (store := fun hs => hs.finishCommit _ took))
    · exact h
  | eraseDone took =>
    refine of_exec_next rfl ?_
    split
    · exact h.guarded (h.change (store := fun hs => hs.finishErase _ took))
    · exact h
  | protectDone readBack | clearProtectDone readBack =>
    refine of_exec_next rfl ?_
    split
    · exact h.guarded (h.change (store := fun hs => hs.finishProtect _ _ readBack))
    · exact h
  | editLoadDone intact =>
    refine of_exec_next rfl ?_
    split
    · exact h.guarded (h.change (store := fun hs => hs.finishEditLoad _ intact))
    · exact h
  | activeLoadDone intact =>
    refine of_exec_next rfl ?_
    split
    · exact h.guarded (h.change (store := fun hs => hs.finishActive _ intact))
    · exact h
  | stagedLoadDone intact =>
    refine of_exec_next rfl ?_
    split
    · exact h.guarded (h.change (store := fun hs => hs.finishStaged _ intact))
    · exact h
  | wpFall =>
    have lowered : BlockBounds { s with wpHigh := false } := h.change
    refine of_exec_next rfl (h.guarded (lowered.guarded ?_))
    exact lowered.change (store := fun hs => hs.stopWrite.lockOnFall)
  | arm => exact of_exec_next rfl (h.command h.arm)
  | resume => exact of_exec_next rfl (h.command fun _ => h.resume)
  | resetUnit => exact of_exec_next rfl (h.command fun _ => h.resetUnit)
  | editClear => exact of_exec_next rfl (h.command fun _ => h.editReply Image.cleared_groups Image.cleared_pins)
  | setHeader => exact of_exec_next rfl (h.command fun _ => h.editReply h.store.groups h.store.pins)
  | putGroup =>
    exact of_exec_next rfl (h.command fun _ => h.editReply (List.length_set.trans h.store.groups) h.store.pins)
  | putPins => exact of_exec_next rfl (h.command h.putPins)
  | setCounts =>
    exact of_exec_next rfl (h.command fun _ => h.editReply ((clearFrom_length _ _ _).trans h.store.groups)
      ((clearFrom_length _ _ _).trans h.store.pins))
  | editLoad => exact of_exec_next rfl (h.command h.editLoad)
  | commit => exact of_exec_next rfl (h.command h.commit)
  | erase => exact of_exec_next rfl (h.command fun slot => h.startWrite _ slot)
  | lockRange => exact of_exec_next rfl (h.command h.lockRange)
  | lockTight =>
    exact of_exec_next rfl (h.command fun _ => h.change (store :=
      fun ⟨slots, directory, lower, upper, groups, pins, images⟩ =>
        ⟨slots, directory, lower, upper, groups, pins, images⟩))
  | protect svc => exact of_exec_next rfl (h.command (h.protect svc))
  | clearProtect svc => exact of_exec_next rfl (h.command fun _ => h.clearProtect svc)
  | setTrigger =>
    exact of_exec_next rfl (h.command fun _ => h.change (trig := by simp [ownSetTrigger, writeTrigger]))
  | clearHits => exact of_exec_next rfl (h.command fun _ => h.change (trig := by simp [ownClearHits]))
  | captureNow => exact of_exec_next rfl (h.command fun _ => h.captureNow)
  | releaseCapture => exact of_exec_next rfl (h.command fun _ => h.releaseCapture)
  | setSetting => exact of_exec_next rfl (h.command h.setSetting)
  | disarm | clearStop | validate | readEdit | readDirectory | select | readVerdicts | readTriggers | readCapture
  | readRecord | readPending | clearPending | readStatus | readIdent | getSetting =>
    exact of_exec_next rfl (h.command fun _ => h.change)

end

/-- Settles O10: the bounds by the stroke's blocks and the other blocks apart, and the windows by what a step can do to a
stroke. -/
theorem stepKeepsWithinBounds : Obligations.StepKeepsWithinBounds := by
  refine ⟨fun s t h hstep => ?_, fun s t hl htab hprof h hstep => step_keeps_windows hl htab hprof h hstep⟩
  obtain rfl | ⟨i, rest, hexec⟩ := step_cases hstep
  · exact h
  · obtain ⟨stroke, blocks⟩ := (withinBounds_iff s).1 h
    refine (withinBounds_iff t).2 ⟨?_, ?_⟩
    · refine strokeStep_keeps_strokeBounds ?_ ?_ (exec_strokeStep i _ t hexec)
      · exact blocks.dec.limitHigh
      · exact stroke.congr
    · refine exec_keeps_blockBounds i ?_ t hexec
      exact blocks.change

end Sys2Proof.Machine

/-! The stroke's commands and its ends: power-on values, ARM, DISARM, RESUME, the hold request, the abort and the entry to
IDLE (02 R24-R27, R39, R41, R47-R50). -/

namespace Sys2Proof.Machine

/-- Settles O3: the power-on state has each block at the value its declaration gives. -/
theorem resetIsPowerOnState : Obligations.ResetIsPowerOnState := by
  refine ⟨?seq, ?win, ?line, rfl, ?cap, ?rcd, ?evt, ?sns, ?link, ?store, ?load, ?dec⟩
  case seq => exact ⟨rfl, rfl, rfl, rfl, rfl, rfl, rfl, rfl, rfl, rfl, rfl, rfl, rfl⟩
  case win => exact ⟨rfl, rfl, rfl, rfl, rfl⟩
  case line => exact ⟨rfl, rfl⟩
  case cap => exact ⟨rfl, rfl, rfl, rfl, rfl, rfl⟩
  case rcd => exact ⟨rfl, rfl, rfl⟩
  case evt => exact ⟨rfl, rfl, rfl, rfl, rfl⟩
  case sns => exact ⟨rfl, rfl, rfl, rfl, rfl, rfl⟩
  case link => exact ⟨rfl, rfl, rfl, rfl, rfl⟩
  case store => exact ⟨rfl, rfl, rfl, rfl⟩
  case load => exact ⟨rfl, rfl, rfl, rfl, rfl, rfl⟩
  case dec => exact ⟨rfl, rfl, rfl, rfl, rfl, rfl, rfl, rfl⟩

/-! ### The entry to IDLE (02 R50; 08 R161) -/

/-- Settles O53: the loader's three cases at the entry. -/
theorem entryToIdle : Obligations.EntryToIdle := by
  refine fun s => ⟨fun absent => ?_, fun loading => ?_, fun img ready => ?_⟩
  · simp only [enterIdle, loaderAtIdle, absent]
  · simp only [enterIdle, loaderAtIdle, loading]
  · simp only [enterIdle, loaderAtIdle, ready]
    rfl

/-! ### The hold request (02 R39) -/

/-- Settles O49: the three phases from which HELD is entered, and the others. -/
theorem holdRequestEntersHeld : Obligations.HoldRequestEntersHeld := by
  refine fun s => ⟨fun hp => ?_, fun hp => ?_⟩
  · unfold holdRequest
    rcases hp with hp | hp | hp <;> simp only [hp]
  · unfold holdRequest
    split
    case h_1 h | h_2 h | h_3 h => simp [h] at hp
    all_goals rfl

/-! ### The abort (02 R48, R49) -/

/-- The cause of a reason other than DISARM bears its number (02 R49; 07 R129). -/
theorem AbortReason.cause_of_ne_disarm {r : AbortReason} (h : r ≠ .disarm) :
    ∃ k, r.cause = some k ∧ k.code = r.number := by
  cases r with
  | disarm => exact absurd rfl h
  | _ => exact ⟨_, rfl, rfl⟩

theorem abortBody_of_cause {r : AbortReason} {k : Cause} (hk : r.cause = some k) (d : Detail) (s : State) :
    abortBody r d s = { closeStroke (some r) none (raise k d (markAbort (stopTimer s))) with
      line := { stop := s.line.stop || r.latches, hold := false } } := by
  simp [abortBody, raiseReason, hk, abortLines]

/-- Settles O51: the abort written out, and the numbers and latches of the reasons. -/
theorem abortEndsStroke : Obligations.AbortEndsStroke := by
  intro r d s hr
  obtain ⟨k, hk, hcode⟩ := AbortReason.cause_of_ne_disarm hr
  refine ⟨k, hk, ?_, ?_⟩
  · rw [hcode]
    cases r with
    | disarm => exact absurd rfl hr
    | _ => rfl
  · have latches : r.latches = !decide (r = .reversal ∨ r = .tare ∨ r = .tooLong) := by
      cases r with
    | disarm => exact absurd rfl hr
    | _ => rfl
    simp only [abort]
    rw [abortBody_of_cause hk, latches]
    rfl

/-! ### ARM (02 R26, R27) -/

theorem exec_arm_of_takes {c : Command} {s : State} (h : s.takes 1 c) (hlen : c.args.length ≤ 16) :
    exec .arm s = .next (answered c (ownArm c.args s).1 (ownArm c.args s).2) :=
  congrArg Host.Outcome.next (runCommand_of_takes h (by simp [parseArm, hlen]))

/-- Settles O15: the five checks in order, then the stroke that a taken ARM begins. -/
theorem armChecksThenBegins : Obligations.ArmChecksThenBegins := by
  intro c s h hlen
  rw [exec_arm_of_takes h hlen]
  unfold ownArm armRefusal beginStroke
  generalize (if c.args = [] then none else some c.args) = tag
  split_ifs <;> rfl

/-! ### DISARM (02 R47) -/

theorem exec_disarm_of_takes {c : Command} {s : State} (h : s.takes 2 c) (ha : c.args = []) :
    exec .disarm s = .next (answered c (ownDisarm () s).1 (ownDisarm () s).2) :=
  congrArg Host.Outcome.next (runCommand_of_takes h (by simp [parseNone, ha]))

/-- DISARM leaves the stop latch, and in IDLE or elsewhere ends in IDLE (02 R47; 04 R77). -/
theorem ownDisarm_stop_phase (s : State) :
    (ownDisarm () s).2.line.stop = s.line.stop ∧ (ownDisarm () s).2.seq.phase = .idle := by
  unfold ownDisarm
  split
  case h_1 idle => exact ⟨rfl, idle⟩
  case h_2 | h_3 | h_4 => simp [enterIdle_line, enterIdle_seq]
  all_goals simp [abortDisarm, enterIdle_line, enterIdle_seq, abortBody, abortLines, AbortReason.latches]

theorem ownDisarm_of_inStroke {s : State} (h : s.seq.phase.inStroke = true) :
    ownDisarm () s = (okReply, abortDisarm s) := by
  unfold ownDisarm
  split <;> rename_i hp
  case h_5 | h_6 | h_7 | h_8 => rfl
  all_goals simp [hp, Phase.inStroke] at h

/-- An abort with reason DISARM raises no cause of its own and sets no latch (02 R49). -/
theorem abortBody_disarm (d : Detail) (s : State) :
    abortBody .disarm d s = { closeStroke (some .disarm) none (markAbort (stopTimer s)) with
      line := { stop := s.line.stop, hold := false } } := by
  simp [abortBody, raiseReason, AbortReason.cause, abortLines, AbortReason.latches]

/-- The close of an abort: outcome ABORT, and STROKE_FAIL (07 R121-R125). -/
theorem closeStroke_of_abort (r : AbortReason) (s : State) :
    let b := buildRecord (some r) none s
    closeStroke (some r) none s = raise .strokeFail .absent (handOver (.verdict b.verdictItems)
      { s with rcd := { history := (s.rcd.history ++ [b]).drop (s.rcd.history.length + 1 - 8)
                        last := some .abort, previous := s.rcd.last } }) := by
  intro b
  have kept : keepLast 8 (s.rcd.history ++ [b]) = (s.rcd.history ++ [b]).drop (s.rcd.history.length + 1 - 8) := by
    simp [keepLast]
  rw [← kept]
  rfl

/-- Settles O16: by phase, with the abort of a running stroke written out. -/
theorem disarmByPhase : Obligations.DisarmByPhase := by
  intro c s h ha
  rw [exec_disarm_of_takes h ha]
  refine ⟨fun idle => ?_, fun hp => ?_, fun running => ?_, fun t ht => ?_⟩
  · simp only [ownDisarm, idle]
    rfl
  · unfold ownDisarm
    rcases hp with hp | hp | hp <;> simp only [hp] <;> rfl
  · rw [ownDisarm_of_inStroke running]
    simp only [abortDisarm, abortBody_disarm, closeStroke_of_abort]
    rfl
  · obtain rfl := Host.Outcome.next.inj ht
    simpa using ownDisarm_stop_phase s

/-! ### RESUME (02 R41) -/

theorem exec_resume_of_takes {c : Command} {s : State} (h : s.takes 3 c) (ha : c.args = []) :
    exec .resume s = .next (answered c (ownResume () s).1 (ownResume () s).2) :=
  congrArg Host.Outcome.next (runCommand_of_takes h (by simp [parseNone, ha]))

theorem Trigger.covers_iff (t : Trigger) (d : Nat) :
    t.covers d = true ↔ t.base ≤ d ∧ d < t.base + spanOf t.spanCode := by simp [Trigger.covers]

/-- RESUME suppresses an entry whose range holds the hold depth, and leaves any other (05 R103). -/
theorem Trigger.suppressAt_eq (d : Nat) (t : Trigger) : t.suppressAt d
    = if t.base ≤ d ∧ d < t.base + spanOf t.spanCode then { t with suppress := true } else t := by
  simp only [← Trigger.covers_iff, Trigger.suppressAt]
  split
  case isTrue hc => simp [hc]
  case isFalse hc => simp [hc]

/-- Settles O17: taken in HELD, refused elsewhere. -/
theorem resumeReturnsToHeldFrom : Obligations.ResumeReturnsToHeldFrom := by
  intro c s h ha
  rw [exec_resume_of_takes h ha]
  refine ⟨fun hp => ?_, fun p d held hfrom hdepth => ?_⟩
  · simp only [ownResume, hp, if_false]
    rfl
  · simp only [ownResume, held, if_true, resumeStroke, hfrom, hdepth, Option.getD_some,
      funext (Trigger.suppressAt_eq d)]
    rfl

end Sys2Proof.Machine

/-! The handling of a sample: the checks before its movement, the phases' own work, the triggers, and the frames that end a
stroke or a capture (02 R28-R46; 05 R94-R106; 06 R112). -/

namespace Sys2Proof.Machine

/-! ### Steps 1 to 4 (02 R29-R31, R37-R46) -/

theorem raisePeak_eq (sum : Int) (p : Option Int) :
    raisePeak sum p = some (match p with | none => sum | some p => max p sum) := by
  cases p <;> rfl

/-- Steps 1 and 2: counted, the timer restarted, and the seat sum taken into the peak after contact (R37, R44). -/
theorem takePeak_countSample_eq (x : Sample) (s : State) : takePeak x (countSample s) = { s with seq := { s.seq with
    sampleCount := s.seq.sampleCount + 1
    stallTimer := s.stallPeriod
    peak := if s.seq.contact = true then raisePeak (s.seatSumOf x) s.seq.peak else s.seq.peak } } := by
  unfold takePeak countSample
  cases s.seq.contact <;> rfl

section
variable {x : Sample} {gap : Nat} {s : State}

/-- Step 2: the lowest crushing channel aborts the stroke (R38). -/
theorem strokeSample_crush {c : Nat} (h : crushChannel x (takePeak x (countSample s)) = some c) :
    strokeSample x gap s = (abort .crush (.channel c) (takePeak x (countSample s)), {}) := by
  simp only [strokeSample, h]

/-- Step 3: one sample over the limit aborts the stroke (R46). -/
theorem strokeSample_overLimit (h : crushChannel x (takePeak x (countSample s)) = none)
    (hl : overLimit (takePeak x (countSample s)) = true) :
    strokeSample x gap s = (abort .tooLong .absent (takePeak x (countSample s)), {}) := by
  simp only [strokeSample, h, hl, if_true]

/-- Past step 3 the sample moves. -/
theorem strokeSample_moves (h : crushChannel x (takePeak x (countSample s)) = none)
    (hl : overLimit (takePeak x (countSample s)) = false) :
    strokeSample x gap s = moveSample x gap (takePeak x (countSample s)) := by
  simp only [strokeSample, h, hl, if_false, Bool.false_eq_true]

theorem movement_held (hp : s.seq.phase = .held) {d : Nat} (hd : s.seq.holdDepth = some d) (depth : Nat) :
    movement depth s = if d + s.profile.header.backlash < depth then .creep else .still := by
  simp [movement, hp, hd]

theorem movement_outside_held (hp : s.seq.phase ≠ .held) (depth : Nat) :
    movement depth s = if s.seq.highWater < depth then .advancing
      else if depth + s.profile.header.backlash < s.seq.highWater ∧ s.seq.rePress = false then .reversal else .still := by
  simp only [movement, hp, if_false]

theorem moveSample_creep (h : movement x.depth s = .creep) : moveSample x gap s = (abort .creep .absent s, {}) := by
  simp only [moveSample, h]

theorem moveSample_reversal (h : movement x.depth s = .reversal) :
    moveSample x gap s = (abort .reversal .absent s, {}) := by
  simp only [moveSample, h]

theorem moveSample_still (h : movement x.depth s = .still) : moveSample x gap s = handToTriggers x false [] s := by
  simp only [moveSample, h]

theorem moveSample_advancing (h : movement x.depth s = .advancing) :
    let r := phaseWork x gap (advance x.depth s)
    let t := handToTriggers x true r.2.classified r.1
    moveSample x gap s = (t.1, { t.2 with openCount := r.2.openCount }) := by
  simp only [moveSample, h]

end

theorem sequence_of_inStroke {s : State} (h : s.seq.phase.inStroke = true) (x : Sample) (gap : Nat) :
    sequence x gap s = strokeSample x gap s := by
  unfold sequence
  split <;> rename_i hp
  case h_1 | h_2 | h_3 | h_4 => simp [hp, Phase.inStroke] at h
  all_goals rfl

/-- Settles O42: the phases by cases, and steps 1 to 4 in their order. -/
theorem samplePhasesAndChecks : Obligations.SamplePhasesAndChecks := by
  refine ⟨fun x gap s => ⟨fun hp => ?_, fun hp => ?_, fun hp => ?_, fun hp => sequence_of_inStroke hp x gap⟩,
    fun x gap s => ?_⟩
  · rcases hp with hp | hp <;> simp only [sequence, hp]
  · simp only [sequence, hp]
    rfl
  · simp only [sequence, hp]
    rfl
  · intro net h s1 crush
    have steps : takePeak x (countSample s) = s1 := by
      rw [takePeak_countSample_eq]
      simp only [raisePeak_eq]
      rfl
    have hcrush : crushChannel x (takePeak x (countSample s)) = crush := by rw [steps]; rfl
    have hover : overLimit s1 = decide (s.dec.strokeLimit * 1024 < s.seq.sampleCount + 1) := rfl
    refine ⟨fun c hc => ?_, fun hc hl => ?_, fun hc hl => ?_⟩
    · rw [strokeSample_crush (hcrush.trans hc), steps]
    · rw [strokeSample_overLimit (hcrush.trans hc) (by rw [steps, hover]; exact decide_eq_true hl), steps]
    · have moves : strokeSample x gap s = moveSample x gap s1 := by
        rw [strokeSample_moves (hcrush.trans hc) (by rw [steps, hover]; exact decide_eq_false (by omega)), steps]
      refine ⟨fun d held hd => ⟨fun deep => ?_, fun near => ?_⟩, fun held => ⟨fun back pressed => ?_,
        fun low near => ?_, fun deep => ?_⟩⟩
      · have creep : movement x.depth s1 = .creep := (movement_held held hd _).trans (if_pos deep)
        rw [moves, moveSample_creep creep]
      · have still : movement x.depth s1 = .still := (movement_held held hd _).trans (if_neg (not_lt.mpr near))
        rw [moves, moveSample_still still]
      · have low : ¬ s.seq.highWater < x.depth := by omega
        have reversal : movement x.depth s1 = .reversal :=
          (movement_outside_held held _).trans ((if_neg low).trans (if_pos ⟨back, pressed⟩))
        rw [moves, moveSample_reversal reversal]
      · have not_back : ¬ (x.depth + h.backlash < s.seq.highWater ∧ s.seq.rePress = false) := by
          rintro ⟨back, pressed⟩
          rcases near with near | near
          · omega
          · simp [near] at pressed
        have still : movement x.depth s1 = .still :=
          (movement_outside_held held _).trans ((if_neg (not_lt.mpr low)).trans (if_neg not_back))
        rw [moves, moveSample_still still]
      · have advancing : movement x.depth s1 = .advancing := (movement_outside_held held _).trans (if_pos deep)
        rw [moves, moveSample_advancing advancing]
        rfl

end Sys2Proof.Machine

/-! Steps 5 and 6: tare and contact, the window report and the seat test, the trigger unit (02 R32-R36; 05 R94-R106). -/

namespace Sys2Proof.Machine

/-! ### Step 5 in APPROACH (02 R32, R33; 03 R55) -/

theorem baselinesOf_length (n : Nat) (ring : List TareEntry) : (baselinesOf n ring).length = 12 := by
  simp [baselinesOf]

/-- A used channel's baseline is the floor of the mean of its raw readings, an unused one's is 0 (R55). -/
theorem baselinesOf_getElem (n : Nat) (ring : List TareEntry) {c : Nat} (hc : c < 12) :
    (baselinesOf n ring)[c]? = some (if c < n then
      Int.fdiv (ring.map fun e => e.raw.getD c 0).sum ring.length else 0) := by
  have floor : baselineOf ring c = Int.fdiv (ring.map fun e => e.raw.getD c 0).sum ring.length :=
    (Int.fdiv_eq_ediv_of_nonneg _ (Int.natCast_nonneg _)).symm
  simp [baselinesOf, hc, floor]

theorem phaseWork_approach {s : State} (hp : s.seq.phase = .approach) (x : Sample) (gap : Nat) :
    phaseWork x gap s = approachWork x gap s := by
  simp only [phaseWork, hp]

theorem phaseWork_engage {s : State} (hp : s.seq.phase = .engage ∨ s.seq.phase = .seating) (x : Sample) (gap : Nat) :
    phaseWork x gap s = engageWork x gap s := by
  rcases hp with hp | hp <;> simp only [phaseWork, hp]

/-- Settles O43: the three cases of step 5 in APPROACH. -/
theorem tareAndContact : Obligations.TareAndContact := by
  intro x gap s hp
  rw [phaseWork_approach hp]
  refine ⟨fun shallow => ?_, fun deep few => ?_, fun deep enough => ?_⟩
  · simp only [approachWork, if_pos shallow]
    rfl
  · simp only [approachWork, if_neg (not_lt.mpr deep), if_pos few]
  · refine ⟨baselinesOf s.profile.header.channelCount s.seq.tareRing, baselinesOf_length _ _,
      fun ch hch => baselinesOf_getElem _ _ hch, ?_⟩
    simp only [approachWork, if_neg (not_lt.mpr deep), if_neg (not_lt.mpr enough)]
    rw [phaseWork_engage (.inl rfl)]
    rfl

/-! ### Step 5 in ENGAGE and SEATING (02 R34, R35; 03 R66, R69) -/

theorem failedOnSample_iff (cs : List Classified) : failedOnSample cs = true
    ↔ ∃ c ∈ cs, c.verdict = .noEngage ∨ c.verdict = .low ∨ c.verdict = .high ∨ c.verdict = .noData := by
  have failing : ∀ v : Verdict, v.failing = true ↔ v = .noEngage ∨ v = .low ∨ v = .high ∨ v = .noData := by
    intro v
    cases v <;> simp [Verdict.failing]
  simp [failedOnSample, failing]

/-- The engine's report moves ENGAGE to SEATING once every group has closed (R34, 03 R54). -/
theorem takeReport_eq {s : State} (hp : s.seq.phase = .engage ∨ s.seq.phase = .seating) (w : WinState) :
    takeReport w s = { s with win := w, seq := { s.seq with
      phase := if w.cursor = s.profile.header.groupCount ∧ w.openSet = [] then .seating else s.seq.phase } } := by
  have closed := everyGroupClosed_iff s.profile w
  unfold takeReport seatingPhase
  by_cases hc : everyGroupClosed s.profile w = true
  · rw [if_pos (And.comm.mp (closed.1 hc))]
    rcases hp with hp | hp <;> simp [hc, hp]
  · rw [if_neg fun h => hc (closed.2 (And.comm.mp h))]
    simp [hc]

section
variable {x : Sample} {s : State}

theorem seatTest_early (force : (s.profile.header.seatForce : Int) ≤ s.seatSumOf x)
    (h : ¬ (s.seq.phase = .seating ∧ s.profile.header.seatMin ≤ x.depth)) :
    seatTest x s = abort .earlySeat .absent s := by
  simp only [seatTest, if_pos force, if_neg h]

theorem seatTest_done (force : (s.profile.header.seatForce : Int) ≤ s.seatSumOf x) (hp : s.seq.phase = .seating)
    (deep : s.profile.header.seatMin ≤ x.depth) : seatTest x s = strokeDone x.depth s := by
  simp only [seatTest, if_pos force, if_pos (And.intro hp deep)]

theorem seatTest_below (force : ¬ (s.profile.header.seatForce : Int) ≤ s.seatSumOf x) :
    seatTest x s = if s.profile.header.seatMax < x.depth then abort .overtravel .absent s else s := by
  simp only [seatTest, if_neg force]

end

/-- Settles O44: the engine's report and what follows it, then the seat test by force, phase and depth. -/
theorem seatTestCases : Obligations.SeatTestCases := by
  refine ⟨fun x gap s hp => ?_, fun x s hp => ?_⟩
  · intro w s1 failed
    have report : takeReport (windowReport x gap s).win s = s1 := takeReport_eq hp _
    have failed_iff : failedOnSample (windowReport x gap s).classified = true ↔ failed := failedOnSample_iff _
    rw [phaseWork_engage hp]
    refine ⟨rfl, fun stop hf => ?_, fun h => ?_⟩
    · simp only [engageWork, report, failed_iff.2 hf, stop, Bool.and_self, if_true]
    · have goes_on : (failedOnSample (windowReport x gap s).classified && s.dec.stopOnFail) = false := by
        rcases h with h | h
        · rw [h, Bool.and_false]
        · rw [Bool.eq_false_iff.mpr (mt failed_iff.1 h), Bool.false_and]
      simp only [engageWork, report, goes_on, Bool.false_eq_true, if_false]
  · refine ⟨fun force engage => ?_, fun force seating shallow => ?_, fun force seating deep => ?_,
      fun low deep => ?_, fun low shallow => ?_⟩
    · exact seatTest_early force (by simp [engage])
    · exact seatTest_early force fun h => absurd h.2 (not_le.mpr shallow)
    · exact seatTest_done force seating deep
    · exact (seatTest_below (not_le.mpr low)).trans (if_pos deep)
    · exact (seatTest_below (not_le.mpr low)).trans (if_neg (not_lt.mpr shallow))

/-! ### Step 6 and the trigger unit (02 R29; 05 R94-R106) -/

theorem handToTriggers_of_inStroke {s : State} (h : s.seq.phase.inStroke = true) (x : Sample) (adv : Bool)
    (cs : List Classified) : handToTriggers x adv cs s = triggerWork x.depth adv (s.netOf x) cs s := if_pos h

theorem handToTriggers_outside {s : State} (h : s.seq.phase.inStroke = false) (x : Sample) (adv : Bool)
    (cs : List Classified) : handToTriggers x adv cs s = (s, {}) := if_neg (by simp [h])

/-- A flag of an entry that the depth has left is cleared (R104). -/
theorem Trigger.release_eq (d : Nat) (t : Trigger) : t.release d
    = if t.base ≤ d ∧ d < t.base + spanOf t.spanCode then t else { t with suppress := false } := by
  simp only [← Trigger.covers_iff, Trigger.release]
  split
  case isTrue hc => simp [hc]
  case isFalse hc => simp [hc]

section
variable {d : Nat} {adv : Bool} {net : List Int} {cs : List Classified} {t : Trigger}

/-- R95. -/
theorem Trigger.matched_depth (h : t.kind = .depth) :
    t.matched d adv net cs = true ↔ adv = true ∧ t.covers d = true := by
  simp [Trigger.matched, h]

/-- R96. -/
theorem Trigger.matched_force {ch : Nat} {level v : Int} (h : t.kind = .force ch level) (hv : net[ch]? = some v) :
    t.matched d adv net cs = true ↔ t.covers d = true ∧ level < v := by
  simp [Trigger.matched, h, hv]

/-- R97. -/
theorem Trigger.matched_verdict (h : t.kind = .verdict) :
    t.matched d adv net cs = true ↔ ∃ c ∈ cs, c.verdict ≠ .pass ∧ t.covers c.start = true := by
  simp [Trigger.matched, h]

end

/-- Settles O48: which phases hand a sample on, what matches it, and what the trigger unit does with it. -/
theorem triggersReleaseMatchAct : Obligations.TriggersReleaseMatchAct := by
  refine ⟨fun x adv cs s => ⟨fun hp => ?_, fun hp => ?_⟩, fun d adv net cs t => ⟨fun h => ?_, fun ch level v h hv => ?_,
    fun h => ?_⟩, fun d adv net cs s => ?_⟩
  · refine handToTriggers_of_inStroke ?_ x adv cs
    rcases hp with hp | hp | hp | hp <;> rw [hp] <;> rfl
  · refine handToTriggers_outside ?_ x adv cs
    rcases hp with hp | hp | hp | hp <;> rw [hp] <;> rfl
  · rw [Trigger.matched_depth h, Trigger.covers_iff]
  · rw [Trigger.matched_force h hv, Trigger.covers_iff]
  · simp only [Trigger.matched_verdict h, Trigger.covers_iff]
  · intro released acts s1
    have release : s.trig.map (Trigger.release d) = released := by
      simp only [released, funext (Trigger.release_eq d)]
    simp only [triggerWork, release, List.any_filter]
    rfl

end Sys2Proof.Machine

/-! The stall timer, the SAMPLE frames that end a stroke or a capture, and the loss of the ports (02 R44-R46, R51; 06 R112;
09 R176, R177). -/

namespace Sys2Proof.Machine

/-! ### Pending causes only grow by raising (07 R130, R132) -/

theorem CauseSet.has_with_self (m : CauseSet) (c : Cause) : CauseSet.has (CauseSet.with m c) c = true := by
  have code : c.code - 1 < 19 := by cases c <;> decide
  simp [CauseSet.has, CauseSet.with, Cause.single, code]

theorem CauseSet.has_with {m : CauseSet} {c : Cause} (h : CauseSet.has m c = true) (d : Cause) :
    CauseSet.has (CauseSet.with m d) c = true := by
  simp only [CauseSet.has] at h
  simp [CauseSet.has, CauseSet.with, h]

section
variable {k : Cause} {s : State}

theorem pending_handOver (h : CauseSet.has s.evt.pending k = true) (i : Inserted) :
    CauseSet.has (handOver i s).evt.pending k = true := by
  unfold handOver
  simp only
  split
  · exact h
  · exact CauseSet.has_with h .drop

theorem pending_raise (h : CauseSet.has s.evt.pending k = true) (c : Cause) (d : Detail) :
    CauseSet.has (raise c d s).evt.pending k = true := by
  have more := CauseSet.has_with h c
  simp only [raise]
  split
  · exact pending_handOver more _
  · exact more

/-- A cause that is raised is pending. -/
theorem pending_raise_self (k : Cause) (d : Detail) (s : State) : CauseSet.has (raise k d s).evt.pending k = true := by
  have raised := CauseSet.has_with_self s.evt.pending k
  simp only [raise]
  split
  · exact pending_handOver raised _
  · exact raised

theorem pending_closeStroke (h : CauseSet.has s.evt.pending k = true) (r : Option AbortReason) (d : Option Nat) :
    CauseSet.has (closeStroke r d s).evt.pending k = true := by
  simp only [closeStroke]
  exact pending_raise (pending_handOver (by simpa using h) _) _ _

/-- An abort leaves the cause of its reason pending. -/
theorem pending_abort {r : AbortReason} (hk : r.cause = some k) (d : Detail) (s : State) :
    CauseSet.has (abort r d s).evt.pending k = true := by
  simp only [abort, abortBody_of_cause hk]
  exact pending_closeStroke (pending_raise_self k d _) _ _

theorem pending_recordSample (h : CauseSet.has s.evt.pending k = true) (e : HistEntry) :
    CauseSet.has (recordSample e s).evt.pending k = true := by
  unfold recordSample
  split
  · exact h
  · simp only
    split
    · exact pending_raise (by simpa using h) _ _
    · exact h
  · exact h

end

/-! ### The stall timer (02 R44, R45) -/

theorem exec_stall {s : State} (hl : s.live = true) :
    exec .stall s = .next (if s.seq.stallTimer.isSome = true then abort .stall .absent s else s) := by
  show Host.Outcome.next (expireTimer s) = _
  simp [expireTimer, hl]

/-! ### Accepted samples that end so (02 R46; 06 R112; log 6) -/

theorem receiveSample_of_accepts {body : List Byte} {check : Word16} {s : State} {gap : Nat}
    (h : acceptsSample body check s = some gap) : receiveSample body check s
      = forward (annotated body check (handleSample (readSample body) gap s).2 (handleSample (readSample body) gap s).1)
        (handleSample (readSample body) gap s).1 := by
  unfold acceptsSample at h
  split at h
  case isFalse => cases h
  case isTrue received =>
    simp only [Bool.and_eq_true, Bool.not_eq_true'] at received
    obtain ⟨⟨live, up⟩, good⟩ := received
    unfold receiveSample
    simp only [live, up, good, h, Bool.and_self, if_true, Bool.false_eq_true, if_false]

/-- The state of the limit check is the one in which the sequencer makes it. -/
theorem sequence_of_atLimitCheck {x : Sample} {gap : Nat} {s s1 : State} (h : atLimitCheck x gap s = some s1)
    (hlimit : overLimit s1 = true) : sequence x gap (acceptSample x gap s) = (abort .tooLong .absent s1, {}) := by
  simp only [atLimitCheck, Option.ite_none_right_eq_some, Option.some.injEq, Bool.and_eq_true,
    Option.isNone_iff_eq_none] at h
  obtain ⟨⟨running, noCrush⟩, rfl⟩ := h
  by_cases armed : (acceptSample x gap s).seq.phase = .armed
  · rw [if_pos armed] at running noCrush hlimit ⊢
    have begins : sequence x gap (acceptSample x gap s) = strokeSample x gap (beginApproach (acceptSample x gap s)) := by
      simp only [sequence, armed]
    rw [begins, strokeSample_overLimit noCrush hlimit]
  · rw [if_neg armed] at running noCrush hlimit ⊢
    obtain ⟨peak, hseq⟩ := takePeak_countSample_seq x (acceptSample x gap s)
    rw [hseq] at running
    rw [sequence_of_inStroke running, strokeSample_overLimit noCrush hlimit]

/-- Nothing but the sequencer's own blocks has changed when the limit is checked. -/
theorem atLimitCheck_line {x : Sample} {gap : Nat} {s s1 : State} (h : atLimitCheck x gap s = some s1) :
    s1.line = s.line := by
  simp only [atLimitCheck, Option.ite_none_right_eq_some, Option.some.injEq] at h
  obtain ⟨-, rfl⟩ := h
  split <;> simp [beginApproach, acceptSample]

theorem endsTooLong_iff {body : List Byte} {check : Word16} {s : State} : endsTooLong body check s = true
    ↔ ∃ gap s1, acceptsSample body check s = some gap ∧ atLimitCheck (readSample body) gap s = some s1
      ∧ overLimit s1 = true := by
  unfold endsTooLong
  cases acceptsSample body check s with
  | none => simp
  | some gap => cases h : atLimitCheck (readSample body) gap s <;> simp [h]

/-- A sample over the limit: the stroke is aborted, the sample recorded, the frame forwarded (02 R46). -/
theorem receiveSample_of_endsTooLong {body : List Byte} {check : Word16} {s : State}
    (h : endsTooLong body check s = true) : ∃ f e s1, s1.line = s.line
      ∧ receiveSample body check s = forward f (recordSample e (abort .tooLong .absent s1)) := by
  obtain ⟨gap, s1, accepts, atLimit, hlimit⟩ := endsTooLong_iff.1 h
  have aborts := sequence_of_atLimitCheck atLimit hlimit
  have handled : (handleSample (readSample body) gap s).1 = recordSample
      (histEntry (readSample body) (abort .tooLong .absent s1).seq.phase) (abort .tooLong .absent s1) := by
    simp only [handleSample, aborts, Bool.false_eq_true, if_false]
  exact ⟨_, _, s1, atLimitCheck_line atLimit, by rw [receiveSample_of_accepts accepts, handled]⟩

theorem abort_last (r : AbortReason) (d : Detail) (s : State) : (abort r d s).rcd.last = some .abort := by
  simp [abort, abortBody, closeStroke_rcd, enterRecord, buildRecord, outcomeOf]

/-- The recording that brings the countdown to 0 freezes the ring (06 R112). -/
theorem recordSample_freezes {s : State} (counting : s.cap.state = .counting) (last : s.cap.countdown = 1)
    (e : HistEntry) : ∃ u, recordSample e s = freeze u := by
  have zero : (pushHistory e s.cap).countdown - 1 = 0 := by
    unfold pushHistory
    split <;> simp [last]
  unfold recordSample
  simp only [counting, zero, if_true]
  exact ⟨_, rfl⟩

/-- A frozen capture stays frozen through a capture request, which is missed (06 R114). -/
theorem captureRequest_of_frozen {s : State} (h : s.cap.state = .frozen) :
    captureRequest s = { s with cap := { s.cap with missed := min 65535 (s.cap.missed + 1) } } := by
  simp only [captureRequest, h]

theorem handleSample_freezes {s : State} (counting : s.cap.state = .counting) (last : s.cap.countdown = 1) (x : Sample)
    (gap : Nat) : (handleSample x gap s).1.cap.state = .frozen ∧ (handleSample x gap s).1.cap.countdown = 0
      ∧ CauseSet.has (handleSample x gap s).1.evt.pending .captureDone = true := by
  have cap : (sequence x gap (acceptSample x gap s)).1.cap = s.cap := by simp [acceptSample]
  obtain ⟨u, hu⟩ := recordSample_freezes (s := (sequence x gap (acceptSample x gap s)).1) (by rw [cap, counting])
    (by rw [cap, last]) (histEntry x (sequence x gap (acceptSample x gap s)).1.seq.phase)
  have frozen : (freeze u).cap.state = .frozen ∧ (freeze u).cap.countdown = 0
      ∧ CauseSet.has (freeze u).evt.pending .captureDone = true :=
    ⟨by rw [freeze_cap], by rw [freeze_cap], pending_raise_self _ _ _⟩
  simp only [handleSample, hu]
  split
  · rw [captureRequest_of_frozen frozen.1]
    exact frozen
  · exact frozen

/-- Settles O50: the stall timer, and the two SAMPLE frames by what their handling ends in. -/
theorem stallTooLongAndCaptureFreeze : Obligations.StallTooLongAndCaptureFreeze := by
  refine ⟨fun s hl => ⟨fun stopped => ?_, fun runs => ⟨?_, by rw [abort_seq], by simp [abort_line, AbortReason.latches]⟩⟩,
    fun s body check => ⟨fun h => ?_, fun h => ?_⟩⟩
  · rw [exec_stall hl, stopped]
    rfl
  · rw [exec_stall hl, if_pos (Option.isSome_iff_ne_none.mpr runs)]
  · obtain ⟨f, e, s1, line, ends⟩ := receiveSample_of_endsTooLong h
    have same : exec (.tooLong body check) s = exec (.sampleFrame body check) s :=
      congrArg Host.Outcome.next (if_pos h)
    have sample : exec (.sampleFrame body check) s = .next (receiveSample body check s) := rfl
    refine ⟨same, _, same.trans sample, ?_⟩
    rw [ends]
    have raised := pending_recordSample (pending_abort (r := .tooLong) rfl .absent s1) e
    exact ⟨by simp [abort_seq], by simp [abort_line, AbortReason.latches, line], by simp [abort_last],
      by simpa using raised⟩
  · have h' := h
    simp only [endsCountdown, Bool.and_eq_true, decide_eq_true_eq, Option.isSome_iff_exists] at h'
    obtain ⟨⟨⟨gap, accepts⟩, counting⟩, last⟩ := h'
    have same : exec (.captureFreeze body check) s = exec (.sampleFrame body check) s :=
      congrArg Host.Outcome.next (if_pos h)
    have sample : exec (.sampleFrame body check) s = .next (receiveSample body check s) := rfl
    refine ⟨same, _, same.trans sample, ?_⟩
    rw [receiveSample_of_accepts accepts]
    simpa using handleSample_freezes counting last (readSample body) gap

end Sys2Proof.Machine

/-! The loss of a port (02 R51; 09 R176, R177). -/

namespace Sys2Proof.Machine

/-! ### The sensor port (02 R51; 09 R177) -/

/-- What the sequencer does as the sensor port goes DOWN, by phase (02 R51). -/
theorem sensorDown_eq (s : State) : sensorDown s = if s.seq.phase.inStroke = true then abort .sensorLink .absent s
    else if s.seq.phase = .armed then enterIdle (raise .sensorLink .absent s) else raise .sensorLink .absent s := by
  unfold sensorDown
  split <;> rename_i hp <;> simp [hp, Phase.inStroke]

/-- The port goes DOWN, a frame arriving is bad, and one passing through is lost (09 R177). -/
theorem loseSensor_eq (arriving passing : Bool) (s : State) : loseSensor arriving passing s = sensorDown { s with
    sns := { s.sns with port := .down, bad := if arriving then min 65535 (s.sns.bad + 1) else s.sns.bad }
    snsTx := if passing then s.snsTx.dropLast else s.snsTx } := by
  cases arriving <;> rfl

theorem exec_sensorPortLoss {s : State} (hl : s.live = true) (up : s.sns.port = .up) (arriving passing : Bool) :
    exec (.sensorPortLoss arriving passing) s = .next (loseSensor arriving passing s) :=
  congrArg Host.Outcome.next (if_pos (by simp [hl, up]))

/-! ### The controller port (07 R130-R132; 09 R176) -/

/-- A drop report is owed from the raising that finds none owed, when the mask holds DROP (07 R132). -/
theorem dropOwed_or_dropItems (s : State) : s.evt.dropOwed.or s.dropItems
    = if s.evt.dropOwed = none ∧ CauseSet.has s.evt.eventMask .drop = true then
        some { strokeNumber := s.seq.strokeNumber, depth := s.sns.latestDepth }
      else s.evt.dropOwed := by
  unfold State.dropItems
  cases s.evt.dropOwed with
  | none => simp
  | some d => simp

/-- Frames lost together at a port that is not UP, and then a raising of a cause: the frames are counted, and so is the event
frame when the mask holds the cause. -/
theorem raise_dropMany {n : Nat} {k : Cause} {s : State} (h : s.tx.drop ≤ 65535) (down : s.ctl.port ≠ .up) (d : Detail) :
    let reported := if CauseSet.has s.evt.eventMask k = true then 1 else 0
    let lost := n + reported
    raise k d (dropMany n s) = { s with
      tx := { s.tx with drop := min 65535 (s.tx.drop + lost), created := s.tx.created + reported }
      evt := { s.evt with
        pending := CauseSet.with (if lost = 0 then s.evt.pending else CauseSet.with s.evt.pending .drop) k
        dropOwed := if lost = 0 then s.evt.dropOwed else s.evt.dropOwed.or s.dropItems } } := by
  intro reported lost
  rw [dropMany_eq n s h]
  cases hk : CauseSet.has s.evt.eventMask k
  · rw [raise_masked (by exact hk)]
    simp [lost, reported, hk]
  · have pending : ((if n = 0 then s.evt.pending else s.evt.pending.with .drop).with k).with .drop
        = (s.evt.pending.with .drop).with k := by
      rw [CauseSet.with_comm]
      split
      · rfl
      · rw [CauseSet.with_with]
    have owed : (if n = 0 then s.evt.dropOwed else s.evt.dropOwed.or s.dropItems).or s.dropItems
        = s.evt.dropOwed.or s.dropItems := by
      split
      · rfl
      · rw [Option.or_assoc, Option.or_self]
    have count : min 65535 (min 65535 (s.tx.drop + n) + 1) = min 65535 (s.tx.drop + (n + 1)) := by omega
    rw [raise_discarded (by exact hk) (by exact down)]
    simpa [lost, reported, hk] using ⟨⟨pending, owed⟩, count⟩

theorem exec_controllerPortLoss {s : State} (hl : s.live = true) (up : s.ctl.port = .up) (arriving : Bool) :
    exec (.controllerPortLoss arriving) s = .next (loseController arriving s) :=
  congrArg Host.Outcome.next (if_pos (by simp [hl, up]))

theorem countControllerBad_dropMany {n : Nat} {s : State} (h : s.tx.drop ≤ 65535) :
    countControllerBad (dropMany n s) = dropMany n (countControllerBad s) := by
  rw [dropMany_eq n s h, dropMany_eq n (countControllerBad s) h]
  rfl

/-- The lane and both queues are emptied and the port is DOWN; the inserted frames among them are lost, and CONTROLLER_LINK
is raised (09 R176). -/
theorem loseController_eq {s : State} (h : s.tx.drop ≤ 65535) (arriving : Bool) : loseController arriving s
    = raise .controllerLink .absent (dropMany (laneInserted s.tx.lane + s.tx.queue.length) { s with
        ctl := { s.ctl with port := .down, bad := if arriving then min 65535 (s.ctl.bad + 1) else s.ctl.bad }
        tx := { s.tx with lane := none, fwd := [], queue := [] } }) := by
  cases arriving
  · rfl
  · simp only [loseController, if_true]
    rw [countControllerBad_dropMany (by exact h)]
    rfl

theorem laneInserted_eq (lane : Option Outgoing) :
    laneInserted lane = match lane with | some (.inserted _) => 1 | _ => 0 := by
  rcases lane with _ | _ | _ <;> rfl

/-- Settles O58: the two losses, the controller port's by the frames lost together and the raising after them. -/
theorem portLosses : Obligations.PortLosses := by
  refine ⟨fun s arriving passing hl up => ?_, fun s arriving hl up hdrop => ?_⟩
  · intro u
    rw [exec_sensorPortLoss hl up, loseSensor_eq, sensorDown_eq]
  · intro reported lost
    have sum : laneInserted s.tx.lane + s.tx.queue.length + reported = lost :=
      congrArg (· + s.tx.queue.length + reported) (laneInserted_eq _)
    have owed : (if lost = 0 then s.evt.dropOwed else s.evt.dropOwed.or s.dropItems)
        = if s.evt.dropOwed = none ∧ 0 < lost ∧ CauseSet.has s.evt.eventMask .drop = true then
            some { strokeNumber := s.seq.strokeNumber, depth := s.sns.latestDepth }
          else s.evt.dropOwed := by
      rw [dropOwed_or_dropItems]
      by_cases none_lost : lost = 0
      · simp [none_lost]
      · simp [none_lost, Nat.pos_of_ne_zero none_lost]
    rw [exec_controllerPortLoss hl up, loseController_eq hdrop, raise_dropMany (by exact hdrop) (by simp), ← owed, ← sum]
    rfl

end Sys2Proof.Machine

/-! The engine's work on one sample in full, what its verdicts write, the path of an accepted sample, and the commands that
read verdicts and records (02 R28; 03 R56, R59-R68, R73; 06 R110; 07 R126; 09 R167-R170). -/

namespace Sys2Proof.Machine

/-! ### Net force and classification (03 R56, R59, R67) -/

theorem clamp16_eq (v : Int) : clamp16 v = if v < -32768 then -32768 else if 32767 < v then 32767 else v := by
  unfold clamp16
  split
  · omega
  · split <;> omega

/-- Settles O45: the net force of a channel is the clamped difference of its two readings. -/
theorem netForceClamped : Obligations.NetForceClamped := by
  intro b r c x y hb hr
  have net : (netForces b r)[c]? = some (clamp16 (y - x)) := by
    rw [netForces, List.getElem?_zipWith_eq_some]
    exact ⟨y, x, hr, hb, rfl⟩
  rw [net, clamp16_eq]

/-- On a rise that is not negative the estimate is the floor of the rise over the pins (R59). -/
theorem estimate_eq_fdiv {rise : Int} (h : 0 ≤ rise) (pins : Nat) : estimate rise pins = (Int.fdiv rise pins).toNat := by
  lift rise to Nat using h
  rw [estimate, ← Int.ofNat_fdiv, Int.toNat_natCast, Int.toNat_natCast]

/-- Settles O46: a short or interrupted window first, then the estimate in the order of R67. -/
theorem classificationOrder : Obligations.ClassificationOrder := by
  refine fun h g pins => ⟨rfl, fun m rise _ => ?_⟩
  simp only [classify, estimate_eq_fdiv rise]
  by_cases short : m.count < h.minSamples
  · rw [if_pos (.inl short), if_pos short]
  · by_cases cut : m.interrupted = true
    · rw [if_pos (.inr cut), if_neg short, if_pos cut]
    · rw [if_neg (not_or.mpr ⟨short, cut⟩), if_neg short, if_neg cut, judge]
      split_ifs <;> rfl

/-! ### The assignment of a verdict (03 R68) -/

theorem Verdict.failing_iff (v : Verdict) :
    v.failing = true ↔ v = .noEngage ∨ v = .low ∨ v = .high ∨ v = .noData := by
  cases v <;> simp [Verdict.failing]

section
variable {e : MapEntry} (pins : List PinRec) (g : Nat) (w : WinState)

theorem assignVerdict_of_failing (h : e.verdict.failing = true) :
    (assignVerdict pins g e w).failTotal = w.failTotal + groupPins pins g
    ∧ (assignVerdict pins g e w).failList = (w.failList ++ failEntries g e 0 pins).take 48 := by
  simp only [assignVerdict, h, if_true, failEntries_length, and_self]

theorem assignVerdict_of_not_failing (h : ¬ e.verdict.failing = true) :
    (assignVerdict pins g e w).failTotal = w.failTotal ∧ (assignVerdict pins g e w).failList = w.failList.take 48 := by
  simp only [assignVerdict, h, if_false, List.length_nil, Nat.add_zero, List.append_nil, and_self, Bool.false_eq_true]

end

/-! ### The work on one sample (03 R60-R65) -/

/-- The groups classified on a sample, with their measures: the ended entries in the order of the set, then the groups that
the cursor passes and whose window has ended too (R61, R62). -/
def windowJobs (img : Image) (depth : Nat) (w : WinState) : List (Nat × Option Measure) :=
  ((w.openSet.filter (WinEntry.ended img depth)).map fun e => (e.group, some e.measure))
  ++ ((List.range' w.cursor (passedCount img depth w.cursor)).filter fun i =>
      decide ((img.groupAt i).windowEnd ≤ depth)).map fun i => (i, none)

theorem judgeAll_append (img : Image) (js ks : List (Nat × Option Measure)) (w : WinState) :
    judgeAll img (js ++ ks) w = judgeAll img ks (judgeAll img js w) := List.foldl_append

theorem namesOf_append (img : Image) (js ks : List (Nat × Option Measure)) :
    namesOf img (js ++ ks) = namesOf img js ++ namesOf img ks := List.map_append

/-- Closing and opening classify one list of jobs; the set then holds the entries that stay and the windows opened. -/
theorem windowWork_eq (img : Image) (x : Sample) (gap : Nat) (net : List Int) (w : WinState) :
    windowWork img x gap net w =
      { win := { judgeAll img (windowJobs img x.depth w) w with
          cursor := w.cursor + passedCount img x.depth w.cursor
          openSet := (((w.openSet.filter fun e => !WinEntry.ended img x.depth e).map (updateEntry img net gap)
            ++ ((List.range' w.cursor (passedCount img x.depth w.cursor)).filter fun i =>
              !decide ((img.groupAt i).windowEnd ≤ x.depth)).map fun i => openEntry i (img.groupAt i) net)).map
                (markOverrange img x.overrange) }
        classified := namesOf img (windowJobs img x.depth w) } := by
  simp only [windowWork]
  rw [openReached_eq img x.depth net _ _ _ rfl rfl, closeEnded_cursor, closeEnded_openSet, closeEnded_eq]
  simp only [windowJobs, judgeAll_append, namesOf_append]
  rw [judgeAll_with img _ (judgeAll img _ w) (judgeAll img _ w).cursor]
  rfl

/-- Every entry left in the set is of a group whose window has not ended (R61, R62). -/
theorem windowWork_not_ended {img : Image} {x : Sample} {gap : Nat} {net : List Int} {w : WinState} {e : WinEntry}
    (he : e ∈ (windowWork img x gap net w).win.openSet) : x.depth < (img.groupAt e.group).windowEnd := by
  have group : e.group ∈ (windowWork img x gap net w).win.openSet.map WinEntry.group := List.mem_map_of_mem he
  rw [windowWork_openGroups, List.mem_filter] at group
  simpa using group.2

/-- Settles O47: the work in full, what an assignment writes, and the open windows left. -/
theorem windowWorkClosesEnded : Obligations.WindowWorkClosesEnded := by
  refine ⟨fun img x gap net w => ⟨fun e he => windowWork_not_ended he, windowWork_length img x gap net w, ?_⟩,
    fun img x gap net w => ?_, fun pins g e w => ⟨rfl, rfl, assignMap_length g e pins w.map, ?_, ?_, ?_⟩⟩
  · rw [windowWork_cursor]
    exact Nat.le_add_right _ _
  · have mark : markOverrange img x.overrange = fun e : WinEntry => { e with
        interrupted := e.interrupted || (List.range 12).any fun c =>
          (img.groupAt e.group).channels.getLsbD c && x.overrange.getLsbD c } :=
      funext fun e => by rw [markOverrange, overrangeHits_eq]
    rw [windowWork_eq, mark]
    simp only [List.length_range']
    rfl
  · exact fun j p old hp hold => assignMap_get g e pins w.map j p old hp hold
  · intro bad
    rw [← failEntries_eq]
    exact assignVerdict_of_failing pins g w ((Verdict.failing_iff _).mpr bad)
  · exact fun good => assignVerdict_of_not_failing pins g w fun h => good ((Verdict.failing_iff _).mp h)

/-! ### An accepted sample (09 R167-R170) -/

/-- A sample is accepted as the first one, or within 127 of the expected number, which is then its gap (R167). -/
theorem gapOf_eq_some_iff {expected : Option Byte} {seq : Byte} {gap : Nat} : gapOf expected seq = some gap
    ↔ expected = none ∧ gap = 0 ∨ ∃ e, expected = some e ∧ (seq - e).toNat = gap ∧ gap ≤ 127 := by
  cases expected with
  | none => simp [gapOf, eq_comm]
  | some e =>
    simp only [gapOf, Option.ite_none_right_eq_some, Option.some.injEq, reduceCtorEq, false_and, false_or,
      exists_eq_left']
    constructor
    · rintro ⟨le, rfl⟩
      exact ⟨rfl, le⟩
    · rintro ⟨rfl, le⟩
      exact ⟨le, rfl⟩

theorem acceptsSample_of_gapOf {body : List Byte} {check : Word16} {s : State} {gap : Nat} (live : s.live = true)
    (up : s.sns.port = .up) (good : badForward { cls := 0x01#8, body := body, check := check } = false)
    (h : gapOf s.sns.expected (readSample body).seq = some gap) : acceptsSample body check s = some gap := by
  simp [acceptsSample, live, up, good, h]

/-- Settles O41: an accepted frame takes the sample path, whose parts are the receiver's update, the sequencer, the capture
unit and the annotation. -/
theorem acceptedSampleTakesSamplePath : Obligations.AcceptedSampleTakesSamplePath := by
  intro s body check gap live up good order
  have accepted := acceptsSample_of_gapOf live up good (gapOf_eq_some_iff.mpr order)
  exact congrArg Host.Outcome.next (receiveSample_of_accepts accepted)

/-! ### READ VERDICTS and READ RECORD (03 R73; 07 R126, R127) -/

theorem exec_readVerdicts_of_takes {c : Command} {s : State} {a : Nat × Nat} (h : s.takes 21 c)
    (ha : parseRun c.args = some a) :
    exec .readVerdicts s = .next (answered c (ownReadVerdicts a s).1 s) := by
  refine congrArg Host.Outcome.next ((runCommand_of_takes h ha).trans ?_)
  rw [ownReadVerdicts_state]

theorem exec_readRecord_of_takes {c : Command} {s : State} {a : Nat × Nat} (h : s.takes 28 c)
    (ha : parseRecord c.args = some a) :
    exec .readRecord s = .next (answered c (ownReadRecord a s).1 s) := by
  refine congrArg Host.Outcome.next ((runCommand_of_takes h ha).trans ?_)
  rw [ownReadRecord_state]

/-- Page 0 is the summary, page p the p-th six of the failing entries (R127). -/
theorem pageBytes_eq (r : StrokeRecord) (page : Nat) : pageBytes r page
    = if page = 0 then summaryBytes r else ((r.failList.drop ((page - 1) * 6)).take 6).flatMap failBytes := by
  cases page <;> rfl

theorem ownReadRecord_absent {s : State} {number : Nat} (page : Nat)
    (h : ∀ r ∈ s.rcd.history, r.strokeNumber ≠ number) : (ownReadRecord (number, page) s).1 = { result := .range } := by
  have unfound : s.rcd.history.find? (fun r => r.strokeNumber == number) = none := by
    simpa [List.find?_eq_none] using h
  simp only [ownReadRecord, unfound]

theorem ownReadRecord_found {s : State} {number : Nat} (page : Nat)
    (h : ∃ r ∈ s.rcd.history, r.strokeNumber = number) : ∃ r ∈ s.rcd.history, r.strokeNumber = number
      ∧ (ownReadRecord (number, page) s).1 = { result := .ok, data := pageBytes r page } := by
  have found : (s.rcd.history.find? fun r => r.strokeNumber == number).isSome = true := by
    simpa [List.find?_isSome] using h
  obtain ⟨r, hr⟩ := Option.isSome_iff_exists.mp found
  refine ⟨r, List.mem_of_find?_eq_some hr, by simpa using List.find?_some hr, ?_⟩
  simp only [ownReadRecord, hr]

/-- Settles O26: each command's answer by its owner, on the state as it stands. -/
theorem verdictAndRecordReadout : Obligations.VerdictAndRecordReadout := by
  refine ⟨fun c s first count h ha => ?_, fun c s number page h ha => ⟨fun absent => ?_, fun present => ?_⟩⟩
  · rw [exec_readVerdicts_of_takes h ha, ownReadVerdicts]
    split
    · rfl
    · split <;> rfl
  · rw [exec_readRecord_of_takes h ha, ownReadRecord_absent page absent]
    rfl
  · obtain ⟨r, mem, number, reply⟩ := ownReadRecord_found page present
    exact ⟨r, mem, number, by rw [exec_readRecord_of_takes h ha, reply, pageBytes_eq]⟩

end Sys2Proof.Machine

/-! The stop latch, the hold state and the stall timer through one step: what each row can do to the line driver and the
sequencer, the invariant of the lines, and what clears the latch (02 R44; 04 R77-R79, R82). -/

namespace Sys2Proof.Machine

/-! ### What a row does to the line driver and the sequencer -/

/-- The two states have the same line driver and the same sequencer. -/
structure SameLines (s t : State) : Prop where
  line : t.line = s.line
  seq : t.seq = s.seq

theorem SameLines.of_eq {s t : State} (line : t.line = s.line := by simp) (seq : t.seq = s.seq := by simp) :
    SameLines s t := ⟨line, seq⟩

theorem SameLines.trans {s t u : State} (h : SameLines s t) (h' : SameLines t u) : SameLines s u :=
  ⟨h'.line.trans h.line, h'.seq.trans h.seq⟩

/-- The rows that may clear the stop latch: CLEAR STOP, the resets, and the loss of power (04 R77, R79, R89; 10 R192;
log 19). -/
def MayClearStop (i : Instr) : Prop :=
  i = .clearStop ∨ i = .resetUnit ∨ i = .powerOff ∨ (∃ nrst wp locken addr, i = .powerOn nrst wp locken addr)
  ∨ ∃ locken addr, i = .nrstRise locken addr

/-- All that row `i` can do to the line driver and the sequencer. -/
inductive LineStep (i : Instr) (s : State) : State → Prop
  /-- Nothing. -/
  | same {t : State} (h : SameLines s t) : LineStep i s t
  /-- A reset, or the loss of power (08 R140, R141; 10 R192). -/
  | fresh {u t : State} (row : MayClearStop i) (line : u.line = {}) (seq : u.seq = {}) (h : SameLines u t) : LineStep i s t
  /-- CLEAR STOP (04 R79). -/
  | clearStop {t : State} (row : MayClearStop i) (h : SameLines (ownClearStop () s).2 t) : LineStep i s t
  /-- A SAMPLE frame (09 R167). -/
  | sample (body : List Byte) (check : Word16) : LineStep i s (receiveSample body check s)
  /-- The loss of the sensor port (02 R51). -/
  | sensorLost {u : State} (h : SameLines s u) : LineStep i s (sensorDown u)
  /-- The stall timer runs out (02 R45). -/
  | stall : LineStep i s (abort .stall .absent s)
  /-- ARM (02 R26, R27). -/
  | arm {t : State} (tag : List Byte) (h : SameLines (ownArm tag s).2 t) : LineStep i s t
  /-- DISARM (02 R47). -/
  | disarm {t : State} (h : SameLines (ownDisarm () s).2 t) : LineStep i s t
  /-- RESUME (02 R41). -/
  | resume {t : State} (h : SameLines (ownResume () s).2 t) : LineStep i s t

theorem LineStep.refl {i : Instr} {s : State} : LineStep i s s := .same .of_eq

theorem LineStep.restart {i : Instr} {s t : State} (row : MayClearStop i) (line : t.line = {}) (seq : t.seq = {}) :
    LineStep i s t := .fresh row line seq .of_eq

/-- A guarded event takes place or does nothing. -/
theorem LineStep.guarded {i : Instr} {s u : State} {b : Bool} (h : LineStep i s u) :
    LineStep i s (if b = true then u else s) := by
  split
  case isTrue => exact h
  case isFalse => exact .refl

section
variable {α : Type} {n : Nat} {always : Bool} {parse : List Byte → Option α} {owner : α → State → Reply × State}
  {i : Instr} {s : State}

/-- A command does what its owner does, or nothing: its decoder leaves the lines and the sequencer. -/
theorem LineStep.command (h : ∀ a t, SameLines (owner a s).2 t → LineStep i s t) :
    LineStep i s (runCommand n always parse owner s) := by
  have answer : ∀ c r t, SameLines t (answered c r t) := fun c r t => .of_eq
  have ends : SameLines s (runCommand n always parse owner s)
      ∨ ∃ a, SameLines (owner a s).2 (runCommand n always parse owner s) :=
    runCommand_cases (fun t => SameLines s t ∨ ∃ a, SameLines (owner a s).2 t) (.inl .of_eq)
      (fun c r t => Or.imp (·.trans (answer c r t)) fun ⟨a, own⟩ => ⟨a, own.trans (answer c r t)⟩)
      fun a => .inr ⟨a, .of_eq⟩
  rcases ends with same | ⟨a, own⟩
  · exact .same same
  · exact h a _ own

/-- A command whose owner leaves the lines and the sequencer leaves them. -/
theorem LineStep.quiet (h : ∀ a, SameLines s (owner a s).2) : LineStep i s (runCommand n always parse owner s) :=
  .command fun a _ own => .same ((h a).trans own)

end

theorem receiveForward_lineStep (i : Instr) (f : Frame) (s : State) : LineStep i s (receiveForward f s) := by
  unfold receiveForward
  split
  · exact .sample _ _
  · split
    · split <;> exact .same .of_eq
    · exact .refl

theorem ownResetUnit_lineStep {s t : State} (h : SameLines (ownResetUnit () s).2 t) : LineStep .resetUnit s t := by
  unfold ownResetUnit at h
  split at h
  · exact .same h
  · split at h
    · exact .same h
    · exact .fresh (u := softReset s) (.inr (.inl rfl)) rfl rfl h

/-- What each row can do to the line driver and the sequencer. -/
theorem exec_lineStep (i : Instr) (s : State) : ∀ t, exec i s = .next t → LineStep i s t := by
  cases i with
  | powerOn nrst wp locken addr =>
    have row : MayClearStop (.powerOn nrst wp locken addr) := .inr (.inr (.inr (.inl ⟨_, _, _, _, rfl⟩)))
    refine of_exec_next rfl ?_
    split
    · exact .refl
    · exact .restart row rfl rfl
  | nrstRise locken addr =>
    have row : MayClearStop (.nrstRise locken addr) := .inr (.inr (.inr (.inr ⟨_, _, rfl⟩)))
    exact of_exec_next rfl (.guarded (.restart row rfl rfl))
  | powerOff => exact of_exec_next rfl (.guarded (.restart (.inr (.inr (.inl rfl))) rfl rfl))
  | nrstLow | powerOnScanDone changed | dropReport | trainingComplete p | controllerPortLoss arriving
  | controllerPortBadFrame f =>
    exact of_exec_next rfl (.guarded (.same .of_eq))
  | sampleFrame body check => exact of_exec_next rfl (.sample body check)
  | forwardFrame f => exact of_exec_next rfl (receiveForward_lineStep _ f s)
  | commandFrame body check | returnFrame f | transmitFrame | wpRise | frameSent | idlePatternSeen p
  | trainingLost p =>
    exact of_exec_next rfl (.same .of_eq)
  | sensorPortLoss arriving passing =>
    exact of_exec_next rfl (.guarded (.sensorLost (by split <;> exact .of_eq)))
  | stall => exact of_exec_next rfl (.guarded .stall)
  | tooLong body check | captureFreeze body check => exact of_exec_next rfl (.guarded (.sample body check))
  | commitDone took | eraseDone took | protectDone readBack | clearProtectDone readBack | editLoadDone intact
  | activeLoadDone intact | stagedLoadDone intact =>
    refine of_exec_next rfl ?_
    split
    · exact .guarded (.same .of_eq)
    · exact .refl
  | wpFall =>
    refine of_exec_next rfl (.guarded ?_)
    split <;> exact .same .of_eq
  | arm => exact of_exec_next rfl (.command fun tag _ h => .arm tag h)
  | disarm => exact of_exec_next rfl (.command fun _ _ h => .disarm h)
  | resume => exact of_exec_next rfl (.command fun _ _ h => .resume h)
  | clearStop => exact of_exec_next rfl (.command fun _ _ h => .clearStop (.inl rfl) h)
  | resetUnit => exact of_exec_next rfl (.command fun _ _ h => ownResetUnit_lineStep h)
  | editClear | editLoad | setHeader | putGroup | putPins | setCounts | validate | commit | erase | readEdit
  | readDirectory | lockRange | lockTight | protect svc | clearProtect svc | select | readVerdicts | setTrigger
  | readTriggers | clearHits | captureNow | releaseCapture | readCapture | readRecord | readPending | clearPending
  | readStatus | readIdent | getSetting | setSetting =>
    exact of_exec_next rfl (.quiet fun _ => .of_eq)

/-! ### The lines follow the phase (02 R44; 04 R78, R82) -/

section
variable {s : State}

theorem lfp_sameLines {t : State} (h : LinesFollowPhase s) (hst : SameLines s t) : LinesFollowPhase t :=
  lfp_congr h hst.line hst.seq

/-- Right after a reset every line is inactive, the phase IDLE and the timer stopped. -/
theorem lfp_fresh (line : s.line = {}) (seq : s.seq = {}) : LinesFollowPhase s := by
  simp [LinesFollowPhase, line, seq]

/-- CLEAR STOP clears the latch at most. -/
theorem lfp_clearStop (h : LinesFollowPhase s) : LinesFollowPhase (ownClearStop () s).2 := by
  have ⟨_, hold, timer, heldFrom⟩ := h
  unfold ownClearStop
  split
  · exact ⟨nofun, hold, timer, heldFrom⟩
  · exact h

/-- DISARM is refused, enters IDLE, or aborts and enters IDLE (02 R47). -/
theorem lfp_disarm (h : LinesFollowPhase s) : LinesFollowPhase (ownDisarm () s).2 := by
  unfold ownDisarm
  split
  case h_1 => exact h
  case h_2 | h_3 | h_4 => exact lfp_enterIdle s
  all_goals exact lfp_abortDisarm s

/-- RESUME leaves HELD for the running phase from which it was entered, with the hold state cleared (02 R41; 04 R82). -/
theorem lfp_resume (h : LinesFollowPhase s) : LinesFollowPhase (ownResume () s).2 := by
  have ⟨stop, _, _, heldFrom⟩ := h
  unfold ownResume
  split
  case isTrue held =>
    have clear : s.line.stop = false := by simpa [held] using stop
    rcases heldFrom held with back | back | back <;>
      simp [LinesFollowPhase, resumeStroke, back, clear, Phase.inStroke]
  case isFalse => exact h

theorem LineStep.keeps_lines {i : Instr} {t : State} (hst : LineStep i s t) (h : LinesFollowPhase s) :
    LinesFollowPhase t := by
  cases hst with
  | same same => exact lfp_sameLines h same
  | fresh _ line seq same => exact lfp_sameLines (lfp_fresh line seq) same
  | clearStop _ same => exact lfp_sameLines (lfp_clearStop h) same
  | sample body check => exact lfp_receiveSample h body check
  | sensorLost same => exact lfp_sensorDown _ (lfp_sameLines h same)
  | stall => exact lfp_abort _ _ _
  | arm tag same => exact lfp_sameLines (lfp_arm h tag) same
  | disarm same => exact lfp_sameLines (lfp_disarm h) same
  | resume same => exact lfp_sameLines (lfp_resume h) same

end

/-- Settles O5: by what a row can do to the lines and the sequencer. -/
theorem stepKeepsLinesFollowPhase : Obligations.StepKeepsLinesFollowPhase := by
  intro s t h hstep
  obtain rfl | ⟨i, rest, hexec⟩ := step_cases hstep
  · exact h
  · exact (exec_lineStep i _ t hexec).keeps_lines (lfp_congr h rfl rfl)

/-! ### The stop latch stands (04 R77) -/

section
variable {s : State}

theorem stop_abort (h : s.line.stop = true) (r : AbortReason) (d : Detail) : (abort r d s).line.stop = true := by
  simp [abort_line, h]

theorem stop_enterIdle (h : s.line.stop = true) : (enterIdle s).line.stop = true := by simpa [enterIdle_line] using h

theorem stop_holdRequest (h : s.line.stop = true) : (holdRequest s).line.stop = true := by
  unfold holdRequest
  split
  case h_1 | h_2 | h_3 => simpa using h
  all_goals exact h

theorem stop_handToTriggers (h : s.line.stop = true) (x : Sample) (adv : Bool) (cs : List Classified) :
    (handToTriggers x adv cs s).1.line.stop = true := by
  unfold handToTriggers triggerWork
  split
  · simp only
    split
    · exact stop_holdRequest h
    · exact h
  · exact h

theorem stop_seatTest (h : s.line.stop = true) (x : Sample) : (seatTest x s).line.stop = true := by
  simp only [seatTest]
  split
  · split
    · simpa using h
    · exact stop_abort h _ _
  · split
    · exact stop_abort h _ _
    · exact h

theorem stop_engageWork (h : s.line.stop = true) (x : Sample) (gap : Nat) :
    (engageWork x gap s).1.line.stop = true := by
  simp only [engageWork]
  split
  · exact stop_abort (by simpa using h) _ _
  · exact stop_seatTest (by simpa using h) x

theorem stop_approachWork (h : s.line.stop = true) (x : Sample) (gap : Nat) :
    (approachWork x gap s).1.line.stop = true := by
  unfold approachWork
  split
  · simpa using h
  · split
    · exact stop_abort h _ _
    · exact stop_engageWork (by simpa using h) x gap

theorem stop_phaseWork (h : s.line.stop = true) (x : Sample) (gap : Nat) :
    (phaseWork x gap s).1.line.stop = true := by
  unfold phaseWork
  split
  case h_1 => exact stop_approachWork h x gap
  case h_2 | h_3 => exact stop_engageWork h x gap
  all_goals exact h

theorem stop_moveSample (h : s.line.stop = true) (x : Sample) (gap : Nat) :
    (moveSample x gap s).1.line.stop = true := by
  unfold moveSample
  split
  case h_1 | h_2 => exact stop_abort h _ _
  case h_3 => exact stop_handToTriggers h _ _ _
  case h_4 => exact stop_handToTriggers (stop_phaseWork (by simpa using h) x gap) _ _ _

theorem stop_strokeSample (h : s.line.stop = true) (x : Sample) (gap : Nat) :
    (strokeSample x gap s).1.line.stop = true := by
  have counted : (takePeak x (countSample s)).line.stop = true := by simpa using h
  simp only [strokeSample]
  split
  · exact stop_abort counted _ _
  · split
    · exact stop_abort counted _ _
    · exact stop_moveSample counted x gap

theorem stop_sequence (h : s.line.stop = true) (x : Sample) (gap : Nat) : (sequence x gap s).1.line.stop = true := by
  unfold sequence
  split
  case h_1 | h_2 => exact h
  case h_3 =>
    simp only [retractSample]
    split
    · exact stop_enterIdle h
    · exact h
  case h_4 => exact stop_strokeSample (by simpa using h) x gap
  all_goals exact stop_strokeSample h x gap

/-- A SAMPLE frame leaves the latch that is set: the receiver and the capture unit leave the lines, and the sequencer sets
the latch only. -/
theorem stop_receiveSample (h : s.line.stop = true) (body : List Byte) (check : Word16) :
    (receiveSample body check s).line.stop = true := by
  unfold receiveSample
  split
  · split
    · simpa using h
    · split
      · simpa using h
      · next gap _ =>
        have accepted : (acceptSample (readSample body) gap s).line.stop = true := by simpa using h
        have handled := stop_sequence accepted (readSample body) gap
        simp only [handleSample]
        split <;> simpa using handled
  · exact h

theorem stop_sensorDown (h : s.line.stop = true) : (sensorDown s).line.stop = true := by
  unfold sensorDown
  split
  case h_1 | h_2 | h_3 | h_4 => exact stop_abort h _ _
  case h_5 => exact stop_enterIdle (by simpa using h)
  all_goals simpa using h

theorem stop_resume (h : s.line.stop = true) : (ownResume () s).2.line.stop = true := by
  unfold ownResume
  split <;> exact h

/-- A row that finds the latch set leaves it so, or is one that may clear it. -/
theorem LineStep.stop_stands {i : Instr} {t : State} (hst : LineStep i s t) (h : s.line.stop = true) :
    t.line.stop = true ∨ MayClearStop i := by
  cases hst with
  | same same => exact .inl (by rw [same.line, h])
  | fresh row | clearStop row => exact .inr row
  | sample body check => exact .inl (stop_receiveSample h body check)
  | sensorLost same => exact .inl (stop_sensorDown (by rw [same.line, h]))
  | stall => exact .inl (stop_abort h _ _)
  | arm tag same => exact .inl (by simp [same.line, h])
  | disarm same => exact .inl (by rw [same.line, (ownDisarm_stop_phase s).1, h])
  | resume same => exact .inl (by rw [same.line, stop_resume h])

end

/-- Settles O11: by what a row can do to the lines. -/
theorem stopLatchClearedOnlyBy : Obligations.StopLatchClearedOnlyBy := by
  intro i s t set hexec clear
  rcases (exec_lineStep i s t hexec).stop_stands set with stands | row
  · simp [clear] at stands
  · exact row

/-! ### CLEAR STOP (04 R79) -/

/-- The owner's answer: the latch as it was (04 R79). -/
theorem ownClearStop_eq (s : State) : ownClearStop () s = if s.seq.phase = .idle ∨ s.seq.phase = .aborted then
      ({ result := .ok, data := [if s.line.stop then 1 else 0] }, { s with line := { s.line with stop := false } })
    else ({ result := .state }, s) := by
  have latch : beBytes 1 (flag s.line.stop) = [if s.line.stop then 1 else 0] := by cases s.line.stop <;> rfl
  rw [ownClearStop, latch]

/-- Settles O18: the scan's refusal, then the owner by phase. -/
theorem clearStopByPhase : Obligations.ClearStopByPhase := by
  intro c s h ha
  have parsed : parseNone c.args = some () := by simp [parseNone, ha]
  refine congrArg Host.Outcome.next ?_
  split
  case isTrue scanning => exact runCommand_busy h parsed scanning
  case isFalse scanned =>
    rw [runCommand_of_takes ⟨h, Bool.eq_false_iff.mpr scanned⟩ parsed, ownClearStop_eq]
    split <;> rfl

end Sys2Proof.Machine

/-! Power, NRST, the power-on state and the levels of the lines (04 R78, R83-R85, R89; 08 R140, R141). -/

namespace Sys2Proof.Machine

/-! ### The invariants right after power-on -/

theorem ledger_reset : LedgerBalances State.reset := ⟨⟨0, rfl, rfl⟩, Nat.zero_le _, fun _ => ⟨rfl, rfl, rfl⟩⟩

/-- Every slot is erased, no COMMIT runs and no tables stand (log 7). -/
theorem prof_reset : ProfilesValidated State.reset := by
  refine ⟨fun c hc => ?_, nofun, trivial, trivial⟩
  obtain rfl := List.eq_of_mem_replicate hc
  exact erased_validated

theorem within_reset : WithinBounds State.reset := by
  have stroke : StrokeBounds 1047552 State.reset :=
    ⟨Nat.zero_le _, Nat.zero_le _, Nat.zero_le _, Nat.zero_le _⟩
  have slots : ∀ c ∈ State.reset.store.slots, c.Fits := fun c hc img k himg => by
    simp [List.eq_of_mem_replicate hc] at himg
  exact (withinBounds_iff _).2 ⟨stroke.goes_on, List.length_replicate, capBounds_fresh, snsBounds_fresh, ctlBounds_fresh,
    ⟨List.length_replicate, List.length_replicate, Nat.zero_le _, le_rfl, Image.cleared_groups, Image.cleared_pins,
      slots⟩, decBounds_fresh⟩

/-- Settles O4: each invariant by its empty case, the erased slots for the profiles. -/
theorem invariantsHoldAtReset : Obligations.InvariantsHoldAtReset :=
  ⟨lfp_fresh rfl rfl, ledger_reset, hist_empty rfl, prof_reset, tab_empty rfl rfl rfl, within_reset, win_outside rfl rfl⟩

/-! ### Power and NRST (04 R89; 08 R140, R141) -/

theorem State.live_iff (s : State) : s.live = true ↔ s.powered = true ∧ s.nrstHigh = true := Bool.and_eq_true_iff

theorem exec_powerOn {s : State} (off : s.powered = false) (nrst wp locken : Bool) (addr : BitVec 6) :
    exec (.powerOn nrst wp locken addr) s
      = .next (powerUp locken addr { s with powered := true, nrstHigh := nrst, wpHigh := wp }) :=
  congrArg Host.Outcome.next (if_neg (by simp [off]))

theorem exec_nrstRise {s : State} (on : s.powered = true) (low : s.nrstHigh = false) (locken : Bool) (addr : BitVec 6) :
    exec (.nrstRise locken addr) s = .next (powerUp locken addr { s with nrstHigh := true }) :=
  congrArg Host.Outcome.next (if_pos (by simp [on, low]))

theorem exec_nrstLow {s : State} (live : s.live = true) :
    exec .nrstLow s = .next { cutOperation s with nrstHigh := false } :=
  congrArg Host.Outcome.next (if_pos live)

theorem exec_powerOff {s : State} (on : s.powered = true) :
    let t := powerUp s.lockenHigh s.unitAddr (cutOperation s)
    exec .powerOff s = .next { t with powered := false, store := { t.store with scanRunning := false } } :=
  congrArg Host.Outcome.next (if_pos on)

/-- A protect bit stands unless the operation that is cut was changing it (log 11). -/
theorem protectCut_getLsbD {op : Option NvOp} {n : Nat} (slot : op ≠ some (.protect n)) (all : op ≠ some .clearProtect)
    (reached old : BitVec 24) : (protectCut op reached old).getLsbD n = old.getLsbD n := by
  unfold protectCut
  split
  case h_1 m =>
    have other : m ≠ n := by rintro rfl; exact slot rfl
    simp [BitVec.getLsbD_twoPow, other]
  case h_2 => exact absurd rfl all
  case h_3 => rfl

/-- Settles O36: the power-on state by its definition, and the cut of a running operation. -/
theorem powerAndNrst : Obligations.PowerAndNrst := by
  refine ⟨fun s nrst wp locken addr => ⟨fun off => exec_powerOn off nrst wp locken addr,
    fun on low => exec_nrstRise on low locken addr⟩, fun s c live hc => ?_⟩
  have bits : ∀ n, s.store.nvOp ≠ some (.protect n) ∧ s.store.nvOp ≠ some .clearProtect →
      (cutOperation s).store.protect.getLsbD n = s.store.protect.getLsbD n :=
    fun n h => protectCut_getLsbD h.1 h.2 _ _
  rcases hc with rfl | rfl
  · exact ⟨_, exec_nrstLow live, Bool.and_false _, rfl, rfl, rfl, by simp [State.stopLevel, State.live], bits⟩
  · exact ⟨_, exec_powerOff ((State.live_iff s).1 live).1, rfl, rfl, rfl, rfl, rfl, bits⟩

/-! ### The levels of the lines (04 R78, R83-R85, R89) -/

/-- Two sets of causes meet when a cause is in both: every bit of a set is a cause's (07 R129; 10 R186). -/
theorem CauseSet.and_ne_zero_iff (a b : CauseSet) :
    a &&& b ≠ 0 ↔ ∃ x : Cause, CauseSet.has a x = true ∧ CauseSet.has b x = true := by
  have every_bit : ∀ i < 19, ∃ x ∈ Cause.all, x.code - 1 = i := by decide
  constructor
  · intro meet
    by_contra! apart
    refine meet (BitVec.eq_of_getLsbD_eq fun i hi => ?_)
    obtain ⟨x, -, rfl⟩ := every_bit i hi
    simpa [CauseSet.has] using apart x
  · rintro ⟨x, ha, hb⟩ empty
    have bit : (a &&& b).getLsbD (x.code - 1) = true := by simpa [CauseSet.has] using And.intro ha hb
    simp [empty] at bit

/-- In PENDING mode ALARM is asserted while a cause of its mask is pending (04 R84). -/
theorem State.alarm_pending_iff {s : State} (mode : s.evt.alarmMode = .pending) : s.alarm = true
    ↔ ∃ x : Cause, CauseSet.has s.evt.pending x = true ∧ CauseSet.has s.evt.alarmMask x = true := by
  rw [← CauseSet.and_ne_zero_iff]
  simp [State.alarm, mode]

/-- In SAFETY mode ALARM follows the stop latch (04 R85). -/
theorem State.alarm_safety {s : State} (mode : s.evt.alarmMode = .safety) : s.alarm = s.line.stop := by
  simp [State.alarm, mode]

theorem State.alarmLevel_running {s : State} (on : s.powered = true) (high : s.nrstHigh = true) :
    s.alarmLevel = some (!s.alarm) := by simp [State.alarmLevel, on, high]

/-- Settles O37: each level by its definition, ALARM by its mode. -/
theorem lineLevels : Obligations.LineLevels := by
  refine fun s on => ⟨fun high => ?_, fun low => ?_⟩
  · refine ⟨by simp [State.stopLevel, State.live, on, high], by simp [State.holdLevel, on, high], fun safety => ?_,
      fun mode meet => ?_, fun mode apart => ?_⟩
    · rw [State.alarmLevel_running on high, State.alarm_safety safety]
    · rw [State.alarmLevel_running on high, (State.alarm_pending_iff mode).2 meet]
      rfl
    · have quiet : s.alarm = false := Bool.eq_false_iff.mpr fun asserted => by
        obtain ⟨x, pending, masked⟩ := (State.alarm_pending_iff mode).1 asserted
        simp [apart x pending] at masked
      rw [State.alarmLevel_running on high, quiet]
      rfl
  · simp [State.stopLevel, State.holdLevel, State.alarmLevel, State.live, on, low]

end Sys2Proof.Machine

/-! SET TRIGGER, READ TRIGGERS and CLEAR HITS (05 R92, R93, R98; 10 R183). -/

namespace Sys2Proof.Machine

/-! ### The argument of SET TRIGGER (05 R92; 10 R183) -/

theorem spanOf_pos (code : Nat) : 0 < spanOf code := by
  unfold spanOf
  split <;> decide

/-- What an accepted SET TRIGGER argument gives of its entry, each from its own field: the index, the span, the base
aligned down, and the enable, ON at 0 (log 15). -/
theorem parseTrigger_fields {args : List Byte} {i : Nat} {t : Trigger} (h : parseTrigger args = some (i, t)) :
    i = fieldAt args 0 2 ∧ t.spanCode = fieldAt args 4 2
    ∧ t.base = fieldAt args 6 16 - fieldAt args 6 16 % spanOf t.spanCode
    ∧ (t.enable = true ↔ fieldAt args 45 1 = 0) := by
  simp only [parseTrigger] at h
  split at h
  case isTrue =>
    obtain ⟨kind, -, entry⟩ := Option.map_eq_some_iff.1 h
    obtain ⟨rfl, rfl⟩ := Prod.mk.inj entry
    exact ⟨rfl, rfl, rfl, decide_eq_true_iff⟩
  case isFalse => cases h

/-- The multiple of the span at or next below a number, as the base is aligned (05 R92). -/
theorem aligned_down {base n span : Nat} (pos : 0 < span) (h : base = n - n % span) :
    base % span = 0 ∧ base ≤ n ∧ n < base + span := by
  subst h
  have below : n % span < span := Nat.mod_lt n pos
  exact ⟨Nat.mod_eq_zero_of_dvd (Nat.dvd_sub_mod n), Nat.sub_le _ _, by omega⟩

/-! ### The entry that SET TRIGGER writes (05 R92) -/

theorem writeTrigger_length (i : Nat) (t : Trigger) (ts : List Trigger) : (writeTrigger i t ts).length = ts.length :=
  List.length_set

/-- The entry is the new one with the old one's hit flag and no suppress flag. -/
theorem writeTrigger_getElem?_self (i : Nat) (t : Trigger) (ts : List Trigger) :
    (writeTrigger i t ts)[i]? = ts[i]?.map fun old => { t with hit := old.hit, suppress := false } := by
  rw [writeTrigger, List.getElem?_set_self', List.getD_eq_getElem?_getD]
  cases ts[i]? <;> rfl

theorem writeTrigger_getElem?_of_ne {i j : Nat} (other : j ≠ i) (t : Trigger) (ts : List Trigger) :
    (writeTrigger i t ts)[j]? = ts[j]? := List.getElem?_set_ne other.symm

/-! ### The three commands by their owners -/

theorem exec_setTrigger_of_takes {c : Command} {s : State} {i : Nat} {t : Trigger} (h : s.takes 22 c)
    (ha : parseTrigger c.args = some (i, t)) :
    exec .setTrigger s
      = .next (answered c { result := .ok, data := beBytes 2 t.base } { s with trig := writeTrigger i t s.trig }) := by
  have taken : exec .setTrigger s = .next (answered c (ownSetTrigger (i, t) s).1 (ownSetTrigger (i, t) s).2) :=
    congrArg Host.Outcome.next (runCommand_of_takes h ha)
  rw [taken, ownSetTrigger]

theorem exec_readTriggers_of_takes {c : Command} {s : State} (h : s.takes 23 c) (ha : c.args = []) :
    exec .readTriggers s = .next (answered c { result := .ok, data := s.trig.flatMap triggerBytes } s) := by
  have taken : exec .readTriggers s = .next (answered c (ownReadTriggers () s).1 (ownReadTriggers () s).2) :=
    congrArg Host.Outcome.next (runCommand_of_takes h (by simp [parseNone, ha]))
  rw [taken, ownReadTriggers]

/-- A hit flag is sent as a byte of its own (05 R98). -/
theorem hitByte_eq (t : Trigger) : beBytes 1 (flag t.hit) = [if t.hit then 1 else 0] := by
  cases hit : t.hit <;> rfl

theorem exec_clearHits_of_takes {c : Command} {s : State} (h : s.takes 24 c) (ha : c.args = []) :
    exec .clearHits s = .next (answered c { result := .ok, data := s.trig.map fun t => if t.hit then 1 else 0 }
      { s with trig := s.trig.map fun t => { t with hit := false } }) := by
  have taken : exec .clearHits s = .next (answered c (ownClearHits () s).1 (ownClearHits () s).2) :=
    congrArg Host.Outcome.next (runCommand_of_takes h (by simp [parseNone, ha]))
  rw [taken, ownClearHits]
  simp only [hitByte_eq, List.map_eq_flatMap]

/-- Settles O27: the entry that the argument spells, written over the old one, then the other two by their owners. -/
theorem triggerCommands : Obligations.TriggerCommands := by
  refine ⟨fun c s i t h ha four => ?_, fun c s => ⟨exec_readTriggers_of_takes, exec_clearHits_of_takes⟩⟩
  obtain ⟨index, span, base, enable⟩ := parseTrigger_fields ha
  obtain ⟨multiple, below, above⟩ := aligned_down (spanOf_pos _) base
  have inside : i < 4 := index ▸ Nat.mod_lt _ (by decide)
  exact ⟨multiple, below, above, span, enable, inside, _, exec_setTrigger_of_takes h ha,
    (writeTrigger_length i t s.trig).trans four, writeTrigger_getElem?_self i t s.trig,
    fun j other => writeTrigger_getElem?_of_ne other t s.trig⟩

end Sys2Proof.Machine

/-! The capture unit by its state: recording and capture requests (06 R109-R114), CAPTURE NOW, RELEASE CAPTURE and READ
CAPTURE (06 R115-R117). -/

namespace Sys2Proof.Machine

variable {s : State}

/-! ### Capture requests (06 R111, R114) -/

theorem captureRequest_missed (h : s.cap.state ≠ .idle) :
    captureRequest s = { s with cap := { s.cap with missed := min 65535 (s.cap.missed + 1) } } := by
  cases hs : s.cap.state with
  | idle => exact absurd hs h
  | counting => simp only [captureRequest, hs]
  | frozen => exact captureRequest_of_frozen hs

theorem captureRequest_counts (h : s.cap.state = .idle) (post : s.dec.postCount ≠ 0) :
    captureRequest s = { s with cap := { s.cap with
      state := .counting, countdown := s.dec.postCount
      trigPos := if s.cap.ring = [] then none else some (s.cap.ring.length - 1) } } := by
  simp only [captureRequest, h, post, if_false]

/-- With a post count of 0 a request freezes the ring as it stands, its newest entry the trigger entry. -/
theorem captureRequest_freezes (h : s.cap.state = .idle) (post : s.dec.postCount = 0) :
    captureRequest s = freeze { s with cap := { s.cap with
      trigPos := if s.cap.ring = [] then none else some (s.cap.ring.length - 1) } } := by
  simp only [captureRequest, h, post, if_true]

/-! ### Recording (06 R109, R112, R113) -/

/-- A ring of at most 512 drops its oldest entry exactly when it is full, and the trigger position moves with its entry. -/
theorem pushHistory_of_le {c : CapState} (h : c.ring.length ≤ 512) (e : HistEntry) :
    pushHistory e c = { c with
      ring := if c.ring.length = 512 then c.ring.drop 1 ++ [e] else c.ring ++ [e]
      trigPos := if c.ring.length = 512 then c.trigPos.map (· - 1) else c.trigPos } := by
  unfold pushHistory
  by_cases full : c.ring.length = 512
  · rw [if_neg (by omega), if_pos full, if_pos full]
  · rw [if_pos (by omega), if_neg full, if_neg full]

@[simp] theorem pushHistory_countdown (e : HistEntry) (c : CapState) : (pushHistory e c).countdown = c.countdown := by
  unfold pushHistory
  split <;> rfl

theorem recordSample_of_frozen (h : s.cap.state = .frozen) (e : HistEntry) : recordSample e s = s := by
  simp only [recordSample, h]

theorem recordSample_of_idle (h : s.cap.state = .idle) (e : HistEntry) :
    recordSample e s = { s with cap := pushHistory e s.cap } := by
  simp only [recordSample, h]

theorem recordSample_counts (h : s.cap.state = .counting) (more : 1 < s.cap.countdown) (e : HistEntry) :
    recordSample e s = { s with cap := { pushHistory e s.cap with countdown := s.cap.countdown - 1 } } := by
  have goesOn : s.cap.countdown - 1 ≠ 0 := by omega
  simp only [recordSample, h, pushHistory_countdown, goesOn, if_false]

/-- The last entry of a capture is in the ring when it freezes. -/
theorem recordSample_last (h : s.cap.state = .counting) (last : s.cap.countdown = 1) (e : HistEntry) :
    recordSample e s = freeze { s with cap := { pushHistory e s.cap with countdown := 0 } } := by
  simp only [recordSample, h, pushHistory_countdown, last, Nat.sub_self, if_true]

/-- Settles O29: the request and the recording by the capture state, with what the ring and the trigger position become. -/
theorem captureUnitByState : Obligations.CaptureUnitByState := by
  refine ⟨fun s => ⟨captureRequest_missed, captureRequest_counts, captureRequest_freezes⟩, fun e s le => ?_⟩
  have pushed := pushHistory_of_le le e
  refine ⟨fun frozen => recordSample_of_frozen frozen e, fun idle => ?_, fun counting more => ?_, fun counting last => ?_⟩
  · rw [recordSample_of_idle idle, pushed]
  · rw [recordSample_counts counting more, pushed]
  · rw [recordSample_last counting last, pushed, freeze]

/-! ### The three commands by their owners (06 R115-R117) -/

theorem beBytes_one (v : Nat) : beBytes 1 v = [BitVec.ofNat 8 v] := rfl

theorem exec_captureNow_of_takes {c : Command} (h : s.takes 25 c) (ha : c.args = []) :
    exec .captureNow s = .next (answered c
      { result := .ok
        data := (if s.cap.state = .idle then 0 else 1) :: beBytes 2 (captureRequest s).cap.missed }
      (captureRequest s)) := by
  have taken : exec .captureNow s = .next (answered c (ownCaptureNow () s).1 (ownCaptureNow () s).2) :=
    congrArg Host.Outcome.next (runCommand_of_takes h (by simp [parseNone, ha]))
  have code : BitVec.ofNat 8 (if s.cap.state = .idle then 0 else 1) = if s.cap.state = .idle then 0 else 1 := by
    split <;> rfl
  rw [taken, ownCaptureNow, beBytes_one, code, List.singleton_append]

theorem exec_releaseCapture_of_takes {c : Command} (h : s.takes 26 c) (ha : c.args = []) :
    exec .releaseCapture s = .next (answered c
      { result := .ok
        data := BitVec.ofNat 8 s.cap.state.code :: (beBytes 2 s.cap.countdown ++ beBytes 2 s.cap.missed) }
      (releaseCapture s)) := by
  have taken : exec .releaseCapture s = .next (answered c (ownReleaseCapture () s).1 (ownReleaseCapture () s).2) :=
    congrArg Host.Outcome.next (runCommand_of_takes h (by simp [parseNone, ha]))
  rw [taken, ownReleaseCapture, beBytes_one, List.append_assoc, List.singleton_append]

theorem exec_readCapture_of_takes {c : Command} {a : Nat × Nat} (h : s.takes 27 c) (ha : parseRun c.args = some a) :
    exec .readCapture s = .next (answered c (ownReadCapture a s).1 s) := by
  refine congrArg Host.Outcome.next ((runCommand_of_takes h ha).trans ?_)
  rw [ownReadCapture_state]

/-- Settles O28: each command by its owner; what a release leaves goes by the state it ends, READ CAPTURE's answer by its
two refusals. -/
theorem captureCommands : Obligations.CaptureCommands := by
  refine fun c s => ⟨exec_captureNow_of_takes, fun h ha => ?_, fun off count h ha => ?_⟩
  · rw [exec_releaseCapture_of_takes h ha]
    cases hs : s.cap.state <;> simp only [releaseCapture, hs]
  · rw [exec_readCapture_of_takes h ha, ownReadCapture]
    split
    · rfl
    · split <;> rfl

end Sys2Proof.Machine

/-! The order of the history through one step: every row keeps at most 8 records, by strictly increasing stroke number (07
R124). -/

namespace Sys2Proof.Machine

/-! ### The order of the history (07 R124) -/

section
variable {s t u : State}

/-- A state with the same record unit and the same sequencer has its history in order too. -/
theorem HistoryOrdered.unchanged (h : HistoryOrdered s) (rcd : t.rcd = s.rcd := by simp)
    (seq : t.seq = s.seq := by simp) : HistoryOrdered t := hist_same h rcd seq

/-- A guarded event takes place or does nothing. -/
theorem HistoryOrdered.guarded {b : Bool} (h : HistoryOrdered s) (hu : b = true → HistoryOrdered u) :
    HistoryOrdered (if b = true then u else s) := by
  split
  case isTrue hb => exact hu hb
  case isFalse => exact h

/-- A taken ARM gives the stroke a number above every record's (02 R27). -/
theorem HistoryOrdered.arm (h : HistoryOrdered s) (tag : List Byte) : HistoryOrdered (ownArm tag s).2 := by
  unfold ownArm
  split
  · exact h
  · obtain ⟨le8, increasing, upTo, -⟩ := h
    have below : ∀ r ∈ s.rcd.history, r.strokeNumber < s.seq.strokeNumber + 1 :=
      fun r mem => Nat.lt_succ_of_le (upTo r mem)
    exact ⟨le8, increasing, fun r mem => (below r mem).le, fun _ => below⟩

/-- DISARM is refused, enters IDLE, or closes the running stroke (02 R47). -/
theorem HistoryOrdered.disarm (h : HistoryOrdered s) : HistoryOrdered (ownDisarm () s).2 := by
  unfold ownDisarm
  split <;> rename_i hp
  case h_1 => exact h
  case h_2 | h_3 | h_4 => exact hist_enterIdle h
  all_goals exact hist_abortDisarm h (by rw [hp]; rfl)

/-- RESUME stays within the running stroke (02 R41). -/
theorem HistoryOrdered.resume (h : HistoryOrdered s) : HistoryOrdered (ownResume () s).2 := by
  unfold ownResume
  split
  case isTrue held => exact hist_congr h rfl rfl fun _ => .inr (by rw [held]; rfl)
  case isFalse => exact h

theorem HistoryOrdered.resetUnit (h : HistoryOrdered s) : HistoryOrdered (ownResetUnit () s).2 := by
  unfold ownResetUnit
  split
  · exact h
  · split
    · exact h
    · exact hist_empty rfl

theorem HistoryOrdered.receiveForward (h : HistoryOrdered s) (f : Frame) :
    HistoryOrdered (Machine.receiveForward f s) := by
  unfold Machine.receiveForward
  split
  · exact hist_receive h _ _
  · split
    · split <;> exact h.unchanged
    · exact h

/-- The timer runs in a running stroke only, so that STALL closes a stroke without a record (02 R44, R45). -/
theorem HistoryOrdered.stall (h : HistoryOrdered s) (hl : LinesFollowPhase s) (running : s.seq.stallTimer.isSome = true) :
    HistoryOrdered (abort .stall .absent s) := by
  obtain ⟨-, -, timer, -⟩ := hl
  exact hist_abort h (timer running) _ _

/-- Each row closes a running stroke, begins one above every record, empties the history, or leaves it as it stands. -/
theorem exec_keeps_history (i : Instr) (hl : LinesFollowPhase s) (h : HistoryOrdered s) :
    ∀ t, exec i s = .next t → HistoryOrdered t := by
  cases i with
  | powerOn nrst wp locken addr =>
    refine of_exec_next rfl ?_
    split
    · exact h
    · exact hist_empty rfl
  | nrstRise locken addr | powerOff => exact of_exec_next rfl (h.guarded fun _ => hist_empty rfl)
  | nrstLow | powerOnScanDone changed | dropReport | trainingComplete p | controllerPortLoss arriving
  | controllerPortBadFrame f =>
    exact of_exec_next rfl (h.guarded fun _ => h.unchanged)
  | sampleFrame body check => exact of_exec_next rfl (hist_receive h body check)
  | tooLong body check | captureFreeze body check =>
    exact of_exec_next rfl (h.guarded fun _ => hist_receive h body check)
  | forwardFrame f => exact of_exec_next rfl (h.receiveForward f)
  | commandFrame body check | returnFrame f | transmitFrame | wpRise | frameSent | idlePatternSeen p
  | trainingLost p =>
    exact of_exec_next rfl h.unchanged
  | sensorPortLoss arriving passing =>
    refine of_exec_next rfl (h.guarded fun _ => hist_sensorDown ?_)
    cases arriving <;> exact h.unchanged
  | stall => exact of_exec_next rfl (h.guarded fun expires => h.stall hl (Bool.and_eq_true_iff.mp expires).2)
  | commitDone took | eraseDone took | protectDone readBack | clearProtectDone readBack | editLoadDone intact
  | activeLoadDone intact | stagedLoadDone intact =>
    refine of_exec_next rfl ?_
    split
    · exact h.guarded fun _ => h.unchanged
    · exact h
  | wpFall =>
    refine of_exec_next rfl (h.guarded fun _ => ?_)
    split <;> exact h.unchanged
  | arm => exact of_exec_next rfl (hist_command h h.arm)
  | disarm => exact of_exec_next rfl (hist_command h fun _ => h.disarm)
  | resume => exact of_exec_next rfl (hist_command h fun _ => h.resume)
  | resetUnit => exact of_exec_next rfl (hist_command h fun _ => h.resetUnit)
  | clearStop | editClear | editLoad | setHeader | putGroup | putPins | setCounts | validate | commit | erase
  | readEdit | readDirectory | lockRange | lockTight | protect svc | clearProtect svc | select | readVerdicts
  | setTrigger | readTriggers | clearHits | captureNow | releaseCapture | readCapture | readRecord | readPending
  | clearPending | readStatus | readIdent | getSetting | setSetting =>
    exact of_exec_next rfl (hist_command h fun _ => h.unchanged)

end

/-- Settles O7: by what each row does to the history and to the number and phase of the stroke. -/
theorem stepKeepsHistoryOrdered : Obligations.StepKeepsHistoryOrdered := by
  intro s t hl h hstep
  obtain rfl | ⟨i, rest, hexec⟩ := step_cases hstep
  · exact h
  · refine exec_keeps_history i ?_ ?_ t hexec
    · exact lfp_congr hl rfl rfl
    · exact h.unchanged rfl rfl

end Sys2Proof.Machine

/-! The events: handing over and raising, the close of a stroke, the transmitter, and the two commands of the pending set
(07 R121-R125, R128-R134; 09 R173-R175, R179). -/

namespace Sys2Proof.Machine

/-! ### Handing over and raising (07 R130-R132; 09 R173-R175) -/

section
variable {s : State}

theorem State.queueTakes_of_room (up : s.ctl.port = .up) (room : s.tx.queue.length < 32) : s.queueTakes = true := by
  simp [State.queueTakes, up, room]

theorem State.queueTakes_of_no_room (full : s.ctl.port ≠ .up ∨ 32 ≤ s.tx.queue.length) : s.queueTakes = false := by
  rcases full with down | full
  · simp [State.queueTakes, down]
  · simp [State.queueTakes, full]

theorem handOver_queued (takes : s.queueTakes = true) (i : Inserted) : handOver i s
    = { s with tx := { s.tx with queue := s.tx.queue ++ [i], created := s.tx.created + 1 } } := if_pos takes

/-- A frame that the queue does not take is created, counted and DROP raised, its report owed with the items of the raising
that set the flag (07 R132; 09 R174, R175). -/
theorem handOver_discarded (refused : s.queueTakes = false) (i : Inserted) : handOver i s
    = { s with
      tx := { s.tx with drop := min 65535 (s.tx.drop + 1), created := s.tx.created + 1 }
      evt := { s.evt with
        pending := CauseSet.with s.evt.pending .drop
        dropOwed := s.evt.dropOwed.or s.dropItems } } := by
  unfold handOver
  simp only [refused, Bool.false_eq_true, if_false, dropInserted_eq]
  rfl

end

/-- Settles O13: a frame by whether the queue takes it, and a raising by its definition. -/
theorem handOverAndRaise : Obligations.HandOverAndRaise := by
  refine ⟨fun i s => ⟨fun up room => ?_, fun full => ?_⟩, fun c d s _ => rfl⟩
  · exact handOver_queued (State.queueTakes_of_room up room) i
  · rw [handOver_discarded (State.queueTakes_of_no_room full)]
    cases owed : s.evt.dropOwed <;> rfl

/-! ### The close of a stroke (07 R121-R125) -/

theorem outcomeOf_eq (reason : Option AbortReason) (failTotal : Nat) : outcomeOf reason failTotal
    = if reason ≠ none then .abort else if 0 < failTotal then .fail else .pass := by
  cases reason <;> rfl

theorem StrokeOutcome.cause_eq (o : StrokeOutcome) : o.cause = if o = .pass then .strokePass else .strokeFail := by
  cases o <;> rfl

/-- The history keeps the 8 newest records (07 R124). -/
theorem enterRecord_eq (r : StrokeRecord) (s : State) : enterRecord r s
    = { s with rcd := { history := (s.rcd.history ++ [r]).drop (s.rcd.history.length + 1 - 8)
                        last := some r.outcome, previous := s.rcd.last } } := by
  simp only [enterRecord, keepLast, List.length_append, List.length_singleton]

/-- Settles O52: the record by its outcome, the history that it enters, and the outcome's cause. -/
theorem closeRecordsStroke : Obligations.CloseRecordsStroke := by
  intro reason seat s o r
  have record : buildRecord reason seat s = r := by simp only [buildRecord, outcomeOf_eq, r, o]
  simp only [closeStroke, record, StrokeOutcome.cause_eq, enterRecord_eq]
  rfl

/-! ### The transmitter (07 R132; 09 R173, R179) -/

theorem beBytes_two (w : Word16) :
    beBytes 2 w.toNat = [BitVec.ofNat 8 (w.toNat / 256), BitVec.ofNat 8 (w.toNat % 256)] := by
  have low : BitVec.ofNat 8 (w.toNat % 256) = BitVec.ofNat 8 w.toNat := BitVec.eq_of_toNat_eq (by simp)
  rw [low]
  simp [beBytes, Nat.shiftRight_eq_div_pow]

theorem frameBytes_eq (f : Frame) : frameBytes f = f.cls :: BitVec.ofNat 8 f.body.length :: f.body
    ++ [BitVec.ofNat 8 (f.check.toNat / 256), BitVec.ofNat 8 (f.check.toNat % 256)] := by
  rw [frameBytes, beBytes_two, frameHead]

section
variable {s : State}

theorem beginSend_forwarded (live : s.live = true) (up : s.ctl.port = .up) (free : s.tx.lane = none) {f : Frame}
    {rest : List Frame} (fwd : s.tx.fwd = f :: rest) :
    beginSend s = { s with tx := { s.tx with lane := some (.forwarded f), fwd := rest } } := by
  simp [beginSend, live, up, free, fwd]

theorem beginSend_inserted (live : s.live = true) (up : s.ctl.port = .up) (free : s.tx.lane = none)
    (fwd : s.tx.fwd = []) {i : Inserted} {rest : List Inserted} (queue : s.tx.queue = i :: rest) :
    beginSend s = { s with tx := { s.tx with lane := some (.inserted i), queue := rest } } := by
  simp [beginSend, live, up, free, fwd, queue]

theorem beginSend_nothing (fwd : s.tx.fwd = []) (queue : s.tx.queue = []) : beginSend s = s := by
  simp [beginSend, fwd, queue]

theorem beginSend_taken {o : Outgoing} (taken : s.tx.lane = some o) : beginSend s = s := by
  simp [beginSend, taken]

theorem endSend_sent (live : s.live = true) {o : Outgoing} (lane : s.tx.lane = some o) : endSend s
    = { s with tx := { s.tx with lane := none, ctlTx := s.tx.ctlTx ++ [frameBytes o.frame]
                                 sent := s.tx.sent + laneInserted (some o) } } := by
  simp only [endSend, lane, live, if_true]

/-- An owed DROP event frame joins a queue that takes it, with the counter as it stands, and the flag clears (07 R132;
log 18). -/
theorem reportDrop_queued {d : DropItems} (owed : s.evt.dropOwed = some d) (takes : s.queueTakes = true) : reportDrop s
    = { s with
      tx := { s.tx with queue := s.tx.queue ++ [.event .drop d.strokeNumber d.depth (.count s.tx.drop)]
                        created := s.tx.created + 1 }
      evt := { s.evt with dropOwed := none } } := by
  simp only [reportDrop, owed, takes, if_true, handOver_queued takes]

theorem reportDrop_nothing (h : s.evt.dropOwed = none ∨ s.queueTakes = false) : reportDrop s = s := by
  unfold reportDrop
  split
  · rfl
  case h_2 d owed =>
    have refused : s.queueTakes = false := by simpa [owed] using h
    simp [refused]

theorem exec_dropReport (live : s.live = true) : exec .dropReport s = .next (reportDrop s) :=
  congrArg Host.Outcome.next (if_pos live)

end

/-- Settles O56: what the lane begins to send, its end, and the report of an owed DROP by whether the queue takes it. -/
theorem transmitterEvents : Obligations.TransmitterEvents := by
  refine ⟨fun s live => ⟨fun up free => ⟨fun f rest fwd => ?_, fun i rest fwd queue => ?_, fun fwd queue => ?_⟩,
    fun o lane => ⟨?_, ?_⟩⟩, fun s live => ⟨fun d owed up room => ?_, fun h => ?_⟩⟩
  · exact congrArg Host.Outcome.next (beginSend_forwarded live up free fwd)
  · exact congrArg Host.Outcome.next (beginSend_inserted live up free fwd queue)
  · exact congrArg Host.Outcome.next (beginSend_nothing fwd queue)
  · exact congrArg Host.Outcome.next (beginSend_taken lane)
  · refine congrArg Host.Outcome.next ((endSend_sent live lane).trans ?_)
    rw [frameBytes_eq]
    cases o <;> rfl
  · rw [exec_dropReport live, reportDrop_queued owed (State.queueTakes_of_room up room)]
  · rw [exec_dropReport live, reportDrop_nothing (h.imp_right State.queueTakes_of_no_room)]

/-! ### Sets of causes in priority order (07 R129, R133) -/

theorem Cause.all_getElem?_code (c : Cause) : Cause.all[c.code - 1]? = some c := by cases c <;> rfl

theorem Cause.mem_all (c : Cause) : c ∈ Cause.all := List.mem_of_getElem? c.all_getElem?_code

theorem Cause.code_pos (c : Cause) : 1 ≤ c.code := by cases c <;> decide

theorem Cause.code_le (c : Cause) : c.code ≤ 19 := by cases c <;> decide

/-- A cause is known by its priority number (07 R129). -/
theorem Cause.eq_of_code_eq {x y : Cause} (h : x.code = y.code) : x = y := by
  have place := x.all_getElem?_code
  rw [h, y.all_getElem?_code] at place
  exact (Option.some.inj place).symm

theorem Cause.all_sorted : Cause.all.Pairwise fun x y => x.code < y.code := by decide

namespace CauseSet

theorem mem_members {m : CauseSet} {c : Cause} : c ∈ members m ↔ has m c = true := by
  simp [members, c.mem_all]

theorem members_sorted (m : CauseSet) : (members m).Pairwise fun x y => x.code < y.code := Cause.all_sorted.filter _

theorem members_empty : members 0 = [] := by simp [members, has]

theorem size_le (m : CauseSet) : size m ≤ 19 := List.length_filter_le _ _

theorem has_without (m : CauseSet) (c d : Cause) : has (without m c) d = (has m d && decide (d ≠ c)) := by
  have inRange : d.code - 1 < 19 := by have := d.code_le; omega
  have same : d.code - 1 = c.code - 1 ↔ d = c := by
    refine ⟨fun h => Cause.eq_of_code_eq ?_, fun h => by rw [h]⟩
    have := c.code_pos
    have := d.code_pos
    omega
  simp [has, without, Cause.single, inRange, same]

theorem members_without (m : CauseSet) (c : Cause) :
    members (without m c) = (members m).filter fun d => decide (d ≠ c) := by
  simp only [members, List.filter_filter]
  exact List.filter_congr fun d _ => (has_without m c d).trans (Bool.and_comm _ _)

/-- The member of lowest priority number comes first, and the members without it follow. -/
theorem members_eq_cons {m : CauseSet} {x : Cause} (hx : has m x = true)
    (lowest : ∀ y, has m y = true → x.code ≤ y.code) : members m = x :: members (without m x) := by
  have sorted := members_sorted m
  rw [members_without]
  cases hm : members m with
  | nil => simp [← mem_members, hm] at hx
  | cons c rest =>
    rw [hm, List.pairwise_cons] at sorted
    obtain ⟨above, -⟩ := sorted
    have head : c = x := by
      have least : x.code ≤ c.code := lowest c (mem_members.mp (by simp [hm]))
      have place : x = c ∨ x ∈ rest := by simpa [hm] using mem_members.mpr hx
      rcases place with rfl | later
      · rfl
      · exact absurd (above x later) (Nat.not_lt.mpr least)
    subst head
    have others : ∀ d ∈ rest, d ≠ c := fun d mem same => (above d mem).ne (by rw [same])
    have kept : rest.filter (fun d => decide (d ≠ c)) = rest := List.filter_eq_self.mpr (by simpa using others)
    simpa using kept.symm

end CauseSet

/-! ### READ PENDING and CLEAR PENDING (07 R133, R134) -/

section
variable {c : Command} {s : State}

theorem exec_readPending_of_takes (h : s.takes 29 c) (ha : c.args = []) :
    exec .readPending s = .next (answered c (ownReadPending () s).1 (ownReadPending () s).2) :=
  congrArg Host.Outcome.next (runCommand_of_takes h (by simp [parseNone, ha]))

theorem exec_clearPending_of_takes (h : s.takes 30 c) (ha : c.args = []) :
    exec .clearPending s = .next (answered c (ownClearPending () s).1 (ownClearPending () s).2) :=
  congrArg Host.Outcome.next (runCommand_of_takes h (by simp [parseNone, ha]))

theorem exec_clearPending_of_scan (h : s.holds 30 c) (ha : c.args = []) (scan : s.store.scanRunning = true) :
    exec .clearPending s = .next (refusedWith c .busy s) :=
  congrArg Host.Outcome.next (runCommand_busy h (a := ()) (by simp [parseNone, ha]) scan)

end

/-- Settles O30: the owner serves the head of the pending causes in priority order. -/
theorem readPendingServesHighest : Obligations.ReadPendingServesHighest := by
  refine fun c s h ha => ⟨fun empty => ?_, fun x pending lowest => ?_⟩ <;> rw [exec_readPending_of_takes h ha]
  · simp only [ownReadPending, empty, CauseSet.members_empty]
  · simp only [ownReadPending, CauseSet.members_eq_cons pending lowest]
    rfl

/-- Settles O31: the scan's refusal or the owner, then ALARM by its mode over the empty set. -/
theorem clearPendingEmptiesSet : Obligations.ClearPendingEmptiesSet := by
  refine fun c s h ha => ⟨?_, CauseSet.size_le _, fun mode => ?_, fun mode => ?_, rfl⟩
  · split
    case isTrue scan => exact exec_clearPending_of_scan h ha scan
    case isFalse scan => exact exec_clearPending_of_takes ⟨h, by simpa using scan⟩ ha
  · refine Bool.eq_false_iff.mpr fun asserted => ?_
    obtain ⟨x, pending, -⟩ := (State.alarm_pending_iff (by exact mode)).mp asserted
    simp [CauseSet.has] at pending
  · rw [State.alarm_safety mode, State.alarm_safety (by exact mode)]

end Sys2Proof.Machine

/-! READY tables hold validated profiles through one step: the slots that a read gives back, the buffer while a COMMIT runs,
and the tables (08 R138, R146, R149). -/

namespace Sys2Proof.Machine

section
variable {s t u : State}

/-! ### What the invariant reads -/

/-- A state with the same store and the same loader holds validated profiles too. -/
theorem ProfilesValidated.unchanged (h : ProfilesValidated s) (store : t.store = s.store := by simp)
    (load : t.load = s.load := by simp) : ProfilesValidated t := prof_eq h store load

/-- A guarded event takes place or does nothing. -/
theorem ProfilesValidated.guarded {b : Bool} (h : ProfilesValidated s) (hu : ProfilesValidated u) :
    ProfilesValidated (if b = true then u else s) := by
  split
  case isTrue => exact hu
  case isFalse => exact h

/-- The tables hold validated profiles when they take validated profiles. -/
theorem ProfilesValidated.tables (h : ProfilesValidated s) (store : t.store = s.store) (active : t.load.active.validated)
    (staged : t.load.staged.validated) : ProfilesValidated t := by
  obtain ⟨slots, buffer, -, -⟩ := h
  rw [← store] at slots buffer
  exact ⟨slots, buffer, active, staged⟩

/-- A slot's memory that passes its check holds a validated profile (08 R138, R149). -/
theorem ProfilesValidated.read (h : ProfilesValidated s) {slot : Nat} {intact : Bool} {img : Image}
    (passes : ((s.content slot).found intact).checked = some img) : img.validate = none := by
  obtain ⟨slots, -, -, -⟩ := h
  exact found_validated (content_validated slots slot) intact img passes

/-! ### The store (08 R146, R149, R150, R154, R155) -/

theorem ProfilesValidated.setContent (h : ProfilesValidated s) (slot : Nat) {c : SlotContent} (hc : c.validated) :
    ProfilesValidated (Machine.setContent slot c s) := by
  have ⟨_, _, active, staged⟩ := h
  exact prof_set h slot c hc rfl (.inl rfl) (.inl rfl) active staged

theorem ProfilesValidated.setDirectory (h : ProfilesValidated s) (slot : Nat) (d : SlotState) :
    ProfilesValidated (Machine.setDirectory slot d s) := prof_same h rfl rfl rfl rfl

theorem ProfilesValidated.corruptSlot (h : ProfilesValidated s) (slot : Nat) {c : SlotContent} (hc : c.validated) :
    ProfilesValidated (Machine.corruptSlot slot c s) := (h.setContent slot hc).setDirectory slot .corrupt

/-- The buffer may change while no COMMIT runs (08 R143). -/
theorem ProfilesValidated.setBuffer (h : ProfilesValidated s) (free : ∀ slot, s.store.nvOp ≠ some (.commit slot))
    (img : Image) : ProfilesValidated (Machine.setBuffer img s) := by
  have ⟨slots, _, active, staged⟩ := h
  exact ⟨slots, fun slot runs => absurd runs (free slot), active, staged⟩

/-- Where no operation runs any more, nothing is claimed of the buffer. -/
theorem ProfilesValidated.ended (h : ProfilesValidated s) (slots : t.store.slots = s.store.slots)
    (nvOp : t.store.nvOp = none) (load : t.load = s.load) : ProfilesValidated t := by
  have ⟨_, _, active, staged⟩ := h
  exact prof_cut h slots nvOp (load ▸ active) (load ▸ staged)

theorem ProfilesValidated.nvFinish (h : ProfilesValidated s) (slot : Option Nat) (ok : Bool) (fault : Option Nat) :
    ProfilesValidated (Machine.nvFinish slot ok fault s) :=
  h.ended (by rw [nvFinish_store]) (by rw [nvFinish_store]) (by simp)

theorem ProfilesValidated.stopWrite (h : ProfilesValidated s) : ProfilesValidated (Machine.stopWrite s) := by
  unfold Machine.stopWrite
  split
  case h_1 slot _ | h_2 slot _ => exact (h.corruptSlot slot broken_validated).nvFinish _ _ _
  case h_3 | h_4 => exact h.nvFinish _ _ _
  all_goals exact h

theorem ProfilesValidated.lockOnFall (h : ProfilesValidated s) : ProfilesValidated (Machine.lockOnFall s) := by
  unfold Machine.lockOnFall
  split
  · exact h
  · exact prof_same h rfl rfl rfl rfl

/-- What a COMMIT writes of a validated buffer is validated: only the records within the counts are judged (08 R138). -/
theorem written_validated {b : Image} (h : b.validate = none) : b.written.validated := by
  intro img passes
  simp only [Image.written, SlotContent.checked, if_true, Option.some.injEq] at passes
  rw [← passes, validate_stored, h]

/-- COMMIT_DONE writes the buffer that the taken COMMIT had validated (08 R149). -/
theorem ProfilesValidated.finishCommit (h : ProfilesValidated s) {slot : Nat} (runs : s.store.nvOp = some (.commit slot))
    (took : Bool) : ProfilesValidated (Machine.finishCommit slot took s) := by
  have ⟨_, buffer, _, _⟩ := h
  have written := found_validated (written_validated (buffer slot runs)) took
  simp only [Machine.finishCommit]
  split
  · exact ((h.setContent slot written).setDirectory slot _).nvFinish _ _ _
  · exact (h.corruptSlot slot written).nvFinish _ _ _

theorem ProfilesValidated.finishErase (h : ProfilesValidated s) (slot : Nat) (took : Bool) :
    ProfilesValidated (Machine.finishErase slot took s) := by
  unfold Machine.finishErase
  split
  · exact ((h.setContent slot erased_validated).setDirectory slot _).nvFinish _ _ _
  · exact (h.corruptSlot slot broken_validated).nvFinish _ _ _

/-- The contents of a slot as a read finds them. -/
theorem ProfilesValidated.found (h : ProfilesValidated s) (slot : Nat) (intact : Bool) :
    ((s.content slot).found intact).validated := fun _ => h.read

/-- The end of an EDIT LOAD changes the buffer, and no COMMIT runs then (08 R146). -/
theorem ProfilesValidated.finishEditLoad (h : ProfilesValidated s) {slot : Nat} (runs : s.store.nvOp = some (.editLoad slot))
    (intact : Bool) : ProfilesValidated (Machine.finishEditLoad slot intact s) := by
  have free : ∀ n, s.store.nvOp ≠ some (.commit n) := by simp [runs]
  simp only [Machine.finishEditLoad]
  split
  · exact (h.setBuffer free _).nvFinish _ _ _
  · exact ((h.corruptSlot slot (h.found slot intact)).setBuffer free _).nvFinish _ _ _

theorem ProfilesValidated.finishProtect (h : ProfilesValidated s) (slot : Option Nat) (intended readBack : BitVec 24) :
    ProfilesValidated (Machine.finishProtect slot intended readBack s) := by
  have readIn : ProfilesValidated { s with store := { s.store with protect := readBack } } := prof_same h rfl rfl rfl rfl
  exact readIn.nvFinish _ _ _

/-! ### The loads (08 R159-R161) -/

/-- A load that fails its check leaves its tables absent (08 R159). -/
theorem ProfilesValidated.finishActive (h : ProfilesValidated s) (slot : Nat) (intact : Bool) :
    ProfilesValidated (Machine.finishActive slot intact s) := by
  have ⟨_, _, _, staged⟩ := h
  simp only [Machine.finishActive]
  split
  case h_1 img passes => exact h.tables rfl (h.read passes) staged
  case h_2 =>
    have spoilt := h.corruptSlot slot (h.found slot intact)
    exact spoilt.tables (by simp [failActive]) (by simp [failActive, Tables.validated]) (by simpa [failActive] using staged)

/-- The staged tables take the image, or the active tables take it by the pending swap (08 R160, R161). -/
theorem ProfilesValidated.stageReady (h : ProfilesValidated s) {img : Image} (valid : img.validate = none) :
    ProfilesValidated (Machine.stageReady img s) := by
  have ⟨_, _, active, _⟩ := h
  unfold Machine.stageReady
  split
  · exact h.tables rfl valid trivial
  · exact h.tables rfl active valid

theorem ProfilesValidated.finishStaged (h : ProfilesValidated s) (slot : Nat) (intact : Bool) :
    ProfilesValidated (Machine.finishStaged slot intact s) := by
  have ⟨_, _, active, _⟩ := h
  simp only [Machine.finishStaged]
  split
  case h_1 img passes => exact h.stageReady (h.read passes)
  case h_2 =>
    have spoilt := h.corruptSlot slot (h.found slot intact)
    exact spoilt.tables (by simp [failStaged]) (by simpa [failStaged] using active) (by simp [failStaged, Tables.validated])

/-! ### The owners of the commands -/

theorem State.not_committing {s : State} (free : s.bufferHeld = false) (slot : Nat) :
    s.store.nvOp ≠ some (.commit slot) := fun runs => by simp [State.bufferHeld, runs] at free

theorem ProfilesValidated.putPins (h : ProfilesValidated s) (a : Nat × List PinRec) :
    ProfilesValidated (ownPutPins a s).2 := by
  simp only [ownPutPins]
  split
  case isTrue => exact h
  case isFalse free =>
    split
    · exact h
    · exact h.setBuffer (State.not_committing (Bool.eq_false_iff.mpr free)) _

theorem ProfilesValidated.editLoad (h : ProfilesValidated s) (slot : Nat) : ProfilesValidated (ownEditLoad slot s).2 := by
  unfold ownEditLoad
  split
  · exact h
  · split
    case h_4 => exact prof_nv h _ nofun
    all_goals exact h

/-- A COMMIT begins on a validated buffer only (08 R147). -/
theorem ProfilesValidated.commit (h : ProfilesValidated s) (slot : Nat) : ProfilesValidated (ownCommit slot s).2 := by
  unfold ownCommit
  split
  · exact h
  · split
    case h_1 => exact h
    case h_2 valid => exact prof_write h _ slot fun _ _ => valid

theorem ProfilesValidated.erase (h : ProfilesValidated s) (slot : Nat) : ProfilesValidated (ownErase slot s).2 :=
  prof_write h _ slot nofun

theorem ProfilesValidated.lockRange (h : ProfilesValidated s) (a : Nat × Nat × Bool) :
    ProfilesValidated (ownLockRange a s).2 := by
  unfold ownLockRange
  iterate 5
    split
    · exact h
  exact prof_same h rfl rfl rfl rfl

theorem ProfilesValidated.protect (h : ProfilesValidated s) (svc : Bool) (slot : Nat) :
    ProfilesValidated (ownProtect svc slot s).2 := by
  unfold ownProtect
  iterate 4
    split
    · exact h
  exact prof_nv h _ nofun

theorem ProfilesValidated.clearProtect (h : ProfilesValidated s) (svc : Bool) :
    ProfilesValidated (ownClearProtect svc () s).2 := by
  unfold ownClearProtect
  iterate 3
    split
    · exact h
  exact prof_nv h _ nofun

/-- A SELECT leaves tables loading, and abandons a staged load at most (08 R159, R160). -/
theorem ProfilesValidated.select (h : ProfilesValidated s) (slot : Nat) : ProfilesValidated (ownSelect slot s).2 := by
  have ⟨_, _, active, staged⟩ := h
  have abandoned : (abandonStaged s.load).staged.validated := by
    unfold abandonStaged
    split
    · trivial
    all_goals exact staged
  unfold ownSelect
  split
  · exact h
  · split
    case h_4 =>
      simp only
      split
      · exact h.tables rfl trivial abandoned
      · exact h.tables rfl active trivial
    all_goals exact h

theorem ProfilesValidated.disarm (h : ProfilesValidated s) : ProfilesValidated (ownDisarm () s).2 := by
  unfold ownDisarm
  split
  case h_1 => exact h
  case h_2 | h_3 | h_4 => exact prof_enterIdle h
  all_goals exact prof_enterIdle h.unchanged

/-- RESET UNIT empties the buffer with no operation running only (10 R191). -/
theorem ProfilesValidated.resetUnit (h : ProfilesValidated s) : ProfilesValidated (ownResetUnit () s).2 := by
  unfold ownResetUnit
  split
  · exact h
  · split
    case isTrue => exact h
    case isFalse idle =>
      have free : s.store.nvOp = none := by simpa [State.nvBusy] using idle
      exact prof_cut h rfl free trivial trivial

/-! ### Every row -/

theorem ProfilesValidated.receiveForward (h : ProfilesValidated s) (f : Frame) :
    ProfilesValidated (Machine.receiveForward f s) := by
  unfold Machine.receiveForward
  split
  · exact prof_receive h _ _
  · split
    · split <;> exact h.unchanged
    · exact h

theorem ProfilesValidated.powerUp (slots : ∀ c ∈ s.store.slots, c.validated) (locken : Bool) (addr : BitVec 6) :
    ProfilesValidated (Machine.powerUp locken addr s) := ⟨slots, nofun, trivial, trivial⟩

/-- The scan judges the slots and ends no operation: those that changed fail every check (08 R138, R140). -/
theorem ProfilesValidated.scanDone (h : ProfilesValidated s) (changed : BitVec 24) :
    let slots := scanSlots changed 0 s.store.slots
    ProfilesValidated { s with store := { s.store with
      slots := slots, directory := slots.map SlotContent.judged, scanRunning := false } } := by
  obtain ⟨slots, buffer, active, staged⟩ := h
  exact ⟨scan_validated changed _ 0 slots, buffer, active, staged⟩

/-- What each row does to the slots, to the buffer of a running COMMIT and to the tables. -/
theorem exec_keeps_profiles (i : Instr) (h : ProfilesValidated s) : ∀ t, exec i s = .next t → ProfilesValidated t := by
  have ⟨slots, _, _, _⟩ := h
  cases i with
  | powerOn nrst wp locken addr =>
    refine of_exec_next rfl ?_
    split
    · exact h
    · exact .powerUp slots locken addr
  | nrstLow => exact of_exec_next rfl (h.guarded (h.ended rfl rfl rfl))
  | nrstRise locken addr => exact of_exec_next rfl (h.guarded (.powerUp slots locken addr))
  | powerOff => exact of_exec_next rfl (h.guarded (prof_cut h rfl rfl trivial trivial))
  | powerOnScanDone changed => exact of_exec_next rfl (h.guarded (h.scanDone changed))
  | sampleFrame body check => exact of_exec_next rfl (prof_receive h body check)
  | tooLong body check | captureFreeze body check => exact of_exec_next rfl (h.guarded (prof_receive h body check))
  | forwardFrame f => exact of_exec_next rfl (h.receiveForward f)
  | commandFrame body check | returnFrame f | transmitFrame | wpRise | frameSent | idlePatternSeen p
  | trainingLost p | stall =>
    exact of_exec_next rfl h.unchanged
  | dropReport | trainingComplete p | controllerPortLoss arriving | controllerPortBadFrame f =>
    exact of_exec_next rfl (h.guarded h.unchanged)
  | sensorPortLoss arriving passing =>
    refine of_exec_next rfl (h.guarded (prof_sensorDown ?_))
    cases arriving <;> exact h.unchanged
  | commitDone took =>
    refine of_exec_next rfl ?_
    split
    case h_1 slot runs => exact h.guarded (h.finishCommit runs took)
    case h_2 => exact h
  | eraseDone took =>
    refine of_exec_next rfl ?_
    split
    · exact h.guarded (h.finishErase _ took)
    · exact h
  | protectDone readBack | clearProtectDone readBack =>
    refine of_exec_next rfl ?_
    split
    · exact h.guarded (h.finishProtect _ _ readBack)
    · exact h
  | editLoadDone intact =>
    refine of_exec_next rfl ?_
    split
    case h_1 slot runs => exact h.guarded (h.finishEditLoad runs intact)
    case h_2 => exact h
  | activeLoadDone intact =>
    refine of_exec_next rfl ?_
    split
    · exact h.guarded (h.finishActive _ intact)
    · exact h
  | stagedLoadDone intact =>
    refine of_exec_next rfl ?_
    split
    · exact h.guarded (h.finishStaged _ intact)
    · exact h
  | wpFall =>
    have lowered : ProfilesValidated { s with wpHigh := false } := h.unchanged
    exact of_exec_next rfl (h.guarded (lowered.guarded lowered.stopWrite.lockOnFall))
  | disarm => exact of_exec_next rfl (prof_command h fun _ => h.disarm)
  | resetUnit => exact of_exec_next rfl (prof_command h fun _ => h.resetUnit)
  | editClear | setHeader | putGroup | setCounts => exact of_exec_next rfl (prof_command h fun _ => prof_edit h _)
  | putPins => exact of_exec_next rfl (prof_command h h.putPins)
  | editLoad => exact of_exec_next rfl (prof_command h h.editLoad)
  | commit => exact of_exec_next rfl (prof_command h h.commit)
  | erase => exact of_exec_next rfl (prof_command h h.erase)
  | lockRange => exact of_exec_next rfl (prof_command h h.lockRange)
  | lockTight => exact of_exec_next rfl (prof_command h fun _ => prof_same h rfl rfl rfl rfl)
  | protect svc => exact of_exec_next rfl (prof_command h (h.protect svc))
  | clearProtect svc => exact of_exec_next rfl (prof_command h fun _ => h.clearProtect svc)
  | select => exact of_exec_next rfl (prof_command h h.select)
  | arm | resume | clearStop | validate | readEdit | readDirectory | readVerdicts | setTrigger | readTriggers
  | clearHits | captureNow | releaseCapture | readCapture | readRecord | readPending | clearPending | readStatus
  | readIdent | getSetting | setSetting =>
    exact of_exec_next rfl (prof_command h fun _ => h.unchanged)

end

/-- Settles O8: by what each row does to the slots, to the buffer of a running COMMIT and to the tables. -/
theorem stepKeepsProfilesValidated : Obligations.StepKeepsProfilesValidated := by
  intro s t h hstep
  obtain rfl | ⟨i, rest, hexec⟩ := step_cases hstep
  · exact h
  · refine exec_keeps_profiles i ?_ t hexec
    exact h.unchanged rfl rfl

end Sys2Proof.Machine

/-! The commands of the profile store: the edit buffer, EDIT LOAD and SELECT, COMMIT and ERASE, READ DIRECTORY and the
protection layers (08 R142-R160). -/

namespace Sys2Proof.Machine

/-- A row that is the taking of command `n` ends in its owner's answer, once the general checks pass (10 R184, R185). -/
theorem exec_of_takes {α : Type} {n : Nat} {parse : List Byte → Option α} {owner : α → State → Reply × State}
    {i : Instr} {c : Command} {s : State} {a : α} (row : exec i s = .next (runCommand n false parse owner s)) (h : s.takes n c)
    (ha : parse c.args = some a) : exec i s = .next (answered c (owner a s).1 (owner a s).2) :=
  row.trans (congrArg Host.Outcome.next (runCommand_of_takes h ha))

theorem parseNone_nil {args : List Byte} (ha : args = []) : parseNone args = some () := by simp [parseNone, ha]

/-! ### Writing the edit buffer (08 R142-R145) -/

/-- A command that changes the buffer is refused BUSY, or puts the new buffer in place (08 R143). -/
theorem answered_editReply (c : Command) (img : Image) (s : State) :
    answered c (editReply img s).1 (editReply img s).2
      = if s.bufferHeld then refusedWith c .busy s
        else answered c { result := .ok } { s with store := { s.store with buffer := img } } := by
  unfold editReply
  split <;> rfl

/-- Settles O19: each of the four commands is one change of the buffer. -/
theorem editCommandsWriteBuffer : Obligations.EditCommandsWriteBuffer := by
  refine fun c s => ⟨fun h ha => ?_, fun hdr h ha => ?_, fun i g h ha => ?_, fun gc pc h ha => ?_⟩
  · rw [exec_of_takes rfl h (parseNone_nil ha), ownEditClear, answered_editReply]
  · rw [exec_of_takes rfl h ha, ownSetHeader, answered_editReply]
  · rw [exec_of_takes rfl h ha, ownPutGroup, answered_editReply]
  · rw [exec_of_takes rfl h ha, ownSetCounts, answered_editReply]
    rfl

/-- A run that fits takes the place of as many records from its first index on (08 R145). -/
theorem setRun_eq {α : Type} (i : Nat) (rs xs : List α) (fits : i + rs.length ≤ xs.length) :
    setRun i rs xs = xs.take i ++ rs ++ xs.drop (i + rs.length) := by
  induction rs generalizing i xs with
  | nil => simp [setRun]
  | cons r rs ih =>
    rw [List.length_cons] at fits
    have front : (xs.set i r).take (i + 1) = xs.take i ++ [r] := by
      rw [List.take_succ_eq_append_getElem (by rw [List.length_set]; omega), List.getElem_set_self,
        List.take_set_of_le le_rfl]
    have back : (xs.set i r).drop (i + 1 + rs.length) = xs.drop (i + (rs.length + 1)) := by
      rw [List.drop_set_of_lt (by omega), Nat.add_right_comm, Nat.add_assoc]
    rw [setRun, ih _ _ (by rw [List.length_set]; omega), front, back]
    simp

/-- Settles O20: by the owner's two refusals, and what a run that fits replaces. -/
theorem putPinsReplacesRun : Obligations.PutPinsReplacesRun := by
  refine fun c s first pins h ha len => ⟨fun held => ?_, fun free beyond => ?_, fun free fits => ?_⟩ <;>
    rw [exec_of_takes rfl h ha]
  · simp [ownPutPins, held, refusedWith]
  · simp [ownPutPins, free, beyond, refusedWith]
  · simp only [ownPutPins, free, Nat.not_lt.mpr fits, if_false, Bool.false_eq_true]
    rw [setRun_eq _ _ _ (len ▸ fits)]
    rfl

/-! ### EDIT LOAD and SELECT (08 R146, R158-R160) -/

/-- A SELECT in IDLE abandons a load into the staged tables, and leaves staged tables that are READY (08 R159). -/
theorem abandonStaged_eq (l : LoadState) : abandonStaged l = { l with
    staged := if l.staged = .loading then .absent else l.staged
    stagedSlot := if l.staged = .loading then none else l.stagedSlot
    swapPending := if l.staged = .loading then false else l.swapPending } := by
  obtain ⟨active, activeSlot, stale, staged, stagedSlot, swapPending⟩ := l
  cases staged <;> simp [abandonStaged]

/-- Settles O22: by NV busy and the state of the slot. -/
theorem loadCommandsStart : Obligations.LoadCommandsStart := by
  refine ⟨fun c s slot h ha =>
      ⟨fun busy => ?_, fun free state => ?_, fun free state => ?_, fun id gc pc free state => ?_⟩,
    fun c s slot h ha =>
      ⟨fun busy => ?_, fun free state => ?_, fun free state => ?_, fun id gc pc free state => ?_⟩⟩ <;>
    rw [exec_of_takes rfl h ha]
  · simp [ownEditLoad, busy, refusedWith]
  · simp [ownEditLoad, free, state, refusedWith]
  · simp [ownEditLoad, free, state, refusedWith]
  · simp [ownEditLoad, free, state, okReply, setNvOp]
  · rcases busy with busy | writing
    · simp [ownSelect, busy, refusedWith]
    · simp [ownSelect, writing, refusedWith]
  · simp [ownSelect, free, state, refusedWith]
  · simp [ownSelect, free, state, refusedWith]
  · simp only [ownSelect, free, state, okReply, selectActive, selectStaged, abandonStaged_eq, if_false, Bool.false_eq_true]

/-! ### COMMIT and ERASE (08 R147-R150) -/

/-- The five checks of a write in order, and the write that begins when all pass (08 R147, R148). -/
theorem answered_startWrite (c : Command) (op : NvOp) (slot : Nat) (s : State) :
    answered c (startWrite op slot s).1 (startWrite op slot s).2
      = if s.wpHigh = false then refusedWith c .locked s
        else if s.unlocked slot = false then refusedWith c .locked s
        else if s.store.protect.getLsbD slot = true then refusedWith c .slotProtected s
        else if s.inUse slot = true then refusedWith c .inUse s
        else if s.nvBusy = true then refusedWith c .busy s
        else answered c okReply (beginWrite op slot s) := by
  simp only [startWrite, writeRefusal, Bool.not_eq_true']
  split_ifs <;> rfl

/-- Settles O23: COMMIT's own two checks, then the checks that it shares with ERASE. -/
theorem writesCheckThenBegin : Obligations.WritesCheckThenBegin := by
  refine fun c s slot ha => ⟨fun h => ?_, fun h => ?_⟩ <;> rw [exec_of_takes rfl h ha]
  · unfold ownCommit
    split
    case isTrue => rfl
    case isFalse =>
      cases s.store.buffer.validate with
      | some f => rfl
      | none => exact congrArg Host.Outcome.next (answered_startWrite c _ slot s)
  · exact congrArg Host.Outcome.next (answered_startWrite c _ slot s)

/-! ### READ DIRECTORY (08 R156) -/

theorem parseDirectory_count_le {args : List Byte} {first count : Nat} (h : parseDirectory args = some (first, count)) :
    count ≤ 6 := by
  unfold parseDirectory at h
  split at h
  case isTrue fits =>
    obtain ⟨-, -, le⟩ := fits
    obtain ⟨-, rfl⟩ := Prod.mk.inj (Option.some.inj h)
    exact le
  case isFalse => simp at h

/-- A run of indices below `n`, counted from its first. -/
theorem range_drop_take (n first count : Nat) :
    ((List.range n).drop first).take count = (List.range (min count (n - first))).map (first + ·) := by
  refine List.ext_getElem (by simp) fun k _ _ => ?_
  simp

/-- Settles O24: the entries are those of a run of slots. -/
theorem readDirectoryAnswers : Obligations.ReadDirectoryAnswers := by
  refine fun c s first count h ha len => ⟨parseDirectory_count_le ha, ?_⟩
  have entries : directoryBytes first count s = (List.range (min count (24 - first))).flatMap fun k =>
      entryBytes (s.slotState (first + k)) (s.store.protect.getLsbD (first + k)) := by
    rw [directoryBytes, len, range_drop_take, List.flatMap_map]
  rw [exec_of_takes rfl h ha, ownReadDirectory_state, ownReadDirectory, entries]
  rfl

/-! ### Protection (08 R151-R154) -/

/-- Settles O25: each command by its owner's checks in order. -/
theorem lockAndProtectCommands : Obligations.LockAndProtectCommands := by
  refine ⟨fun c s => ⟨fun lo hi inv h ha => ?_, fun h ha => ?_⟩,
    fun c s svc => ⟨fun slot h ha => ?_, fun h ha => ?_⟩⟩
  · rw [exec_of_takes rfl h ha]
    simp only [ownLockRange, Bool.not_eq_true']
    split_ifs <;> rfl
  · rw [exec_of_takes rfl h (parseNone_nil ha)]
    rfl
  · rw [exec_of_takes rfl h ha]
    simp only [ownProtect, Bool.not_eq_true']
    split_ifs <;> rfl
  · rw [exec_of_takes rfl h (parseNone_nil ha)]
    simp only [ownClearProtect, Bool.not_eq_true']
    split_ifs <;> rfl

end Sys2Proof.Machine

/-! The power-on scan, the WP line, and the completions of the store's operations and of the loads (08 R138-R140, R146,
R149, R150, R153-R155, R159-R161). -/

namespace Sys2Proof.Machine

/-! ### The power-on scan (08 R138, R140) -/

theorem exec_powerOnScanDone {s : State} (live : s.live = true) (scan : s.store.scanRunning = true)
    (changed : BitVec 24) : exec (.powerOnScanDone changed) s = .next { s with store := { s.store with
      slots := scanSlots changed 0 s.store.slots
      directory := (scanSlots changed 0 s.store.slots).map SlotContent.judged, scanRunning := false } } :=
  congrArg Host.Outcome.next (if_pos (by rw [live, scan]; rfl))

/-- The scan finds each slot's memory as it was written, or changed. -/
theorem scanSlots_getElem? (changed : BitVec 24) (i : Nat) (cs : List SlotContent) (n : Nat) :
    (scanSlots changed i cs)[n]? = cs[n]?.map (·.found (!changed.getLsbD (i + n))) := by
  induction cs generalizing i n with
  | nil => rfl
  | cons c cs ih =>
    cases n with
    | zero => rfl
    | succ n => simp [scanSlots, ih, Nat.add_assoc, Nat.add_comm 1 n]

@[simp] theorem SlotContent.judged_erased : SlotContent.erased.judged = .empty := rfl
@[simp] theorem SlotContent.judged_broken : SlotContent.broken.judged = .corrupt := rfl

@[simp] theorem SlotContent.judged_image (img : Image) (k : Word16) : (SlotContent.image img k).judged
    = if imageCheck img = k then img.entry else .corrupt := by
  by_cases passes : imageCheck img = k <;> simp [SlotContent.judged, SlotContent.checked, passes]

/-- Settles O38: the scan judges what it finds in each slot. -/
theorem scanJudgesSlots : Obligations.ScanJudgesSlots := by
  refine fun s changed live scan len => ⟨_, _, exec_powerOnScanDone live scan changed, ?_, ?_, fun n hn => ?_⟩
  · rw [scanSlots_length, len]
  · rw [List.length_map, scanSlots_length, len]
  · obtain ⟨c, hc⟩ : ∃ c, s.store.slots[n]? = some c := ⟨_, List.getElem?_eq_getElem (len ▸ hn)⟩
    simp only [List.getElem?_map, scanSlots_getElem?, Nat.zero_add, hc, Option.map_some]
    refine ⟨fun spoilt => ?_, fun intact => ⟨?_, ?_, ?_, ?_⟩⟩
    · simp [spoilt, SlotContent.found]
    · simp [intact, SlotContent.found]
    · rintro ⟨⟩
      simp [intact, SlotContent.found]
    · rintro ⟨⟩
      simp [intact, SlotContent.found]
    · rintro img k ⟨⟩
      simp [intact, SlotContent.found, Image.entry]

/-! ### The end of an operation (08 R141, R146, R149, R150) -/

section
variable {s : State}

/-- An operation that fails raises PROFILE_FAULT for its slot, then NV_DONE. -/
theorem nvFinish_fault (slot n : Nat) (s : State) : nvFinish (some slot) false (some n) s
    = raise .nvDone (.nv (some slot) false) (raise .profileFault (.slot n)
        { s with store := { s.store with nvOp := none } }) := rfl

/-- One that names no faulty slot raises NV_DONE alone. -/
theorem nvFinish_clean (slot : Option Nat) (ok : Bool) (s : State) : nvFinish slot ok none s
    = raise .nvDone (.nv slot ok) { s with store := { s.store with nvOp := none } } := rfl

/-! ### The WP line (08 R153, R155) -/

theorem exec_wpFall (live : s.live = true) (high : s.wpHigh = true) :
    exec .wpFall s = .next (lockOnFall (stopWrite { s with wpHigh := false })) := by
  have running : State.live { s with wpHigh := false } = true := live
  exact congrArg Host.Outcome.next ((if_pos high).trans (if_pos running))

theorem lockOnFall_eq (s : State) : lockOnFall s = if s.store.lockTight = true then s
    else { s with store := { s.store with lockLower := 0, lockUpper := 23, invert := true } } := rfl

theorem stopWrite_lockTight (s : State) : (stopWrite s).store.lockTight = s.store.lockTight := by
  unfold stopWrite
  split
  case h_1 | h_2 => rw [nvFinish_store]; rfl
  case h_3 | h_4 => rw [nvFinish_store]
  all_goals rfl

/-- A COMMIT or ERASE that WP stops leaves its slot CORRUPT (08 R155). -/
theorem stopWrite_slot {n : Nat} (runs : s.store.nvOp = some (.commit n) ∨ s.store.nvOp = some (.erase n)) :
    stopWrite s = nvFinish (some n) false (some n) (setDirectory n .corrupt (setContent n .broken s)) := by
  unfold stopWrite
  rcases runs with runs | runs <;> rw [runs]

theorem stopWrite_protect {n : Nat} (runs : s.store.nvOp = some (.protect n)) :
    stopWrite s = nvFinish (some n) false none s := by
  unfold stopWrite
  rw [runs]

theorem stopWrite_clearProtect (runs : s.store.nvOp = some .clearProtect) : stopWrite s = nvFinish none false none s := by
  unfold stopWrite
  rw [runs]

/-- An EDIT LOAD goes on (08 R155). -/
theorem stopWrite_none {n : Nat} (runs : s.store.nvOp = none ∨ s.store.nvOp = some (.editLoad n)) : stopWrite s = s := by
  unfold stopWrite
  rcases runs with runs | runs <;> rw [runs]

end

/-- Settles O39: what WP stops by the running operation, then the lock range. -/
theorem wpFallAndRise : Obligations.WpFallAndRise := by
  refine fun s => ⟨rfl, fun live high => ⟨stopWrite { s with wpHigh := false }, ?_, by simp, fun n runs => ?_,
    fun n runs => ?_, fun runs => ?_, fun n runs => ?_⟩⟩
  · rw [exec_wpFall live high, lockOnFall_eq, stopWrite_lockTight]
  · exact stopWrite_slot runs
  · exact stopWrite_protect runs
  · exact stopWrite_clearProtect runs
  · exact stopWrite_none runs

/-! ### The completions of writes and of protection (08 R149, R150, R154) -/

section
variable {s : State} {slot : Nat}

theorem Image.checked_written (b : Image) : b.written.checked = some b.stored := by
  simp [Image.written, SlotContent.checked]

theorem exec_commitDone (live : s.live = true) (runs : s.store.nvOp = some (.commit slot)) (took : Bool) :
    exec (.commitDone took) s = .next (finishCommit slot took s) :=
  congrArg Host.Outcome.next (by rw [runs]; exact if_pos live)

theorem exec_eraseDone (live : s.live = true) (runs : s.store.nvOp = some (.erase slot)) (took : Bool) :
    exec (.eraseDone took) s = .next (finishErase slot took s) :=
  congrArg Host.Outcome.next (by rw [runs]; exact if_pos live)

theorem exec_protectDone (live : s.live = true) (runs : s.store.nvOp = some (.protect slot)) (back : BitVec 24) :
    exec (.protectDone back) s
      = .next (finishProtect (some slot) (s.store.protect ||| BitVec.twoPow 24 slot) back s) :=
  congrArg Host.Outcome.next (by rw [runs]; exact if_pos live)

theorem exec_clearProtectDone (live : s.live = true) (runs : s.store.nvOp = some .clearProtect) (back : BitVec 24) :
    exec (.clearProtectDone back) s = .next (finishProtect none 0 back s) :=
  congrArg Host.Outcome.next (by rw [runs]; exact if_pos live)

/-- The memory took the image whole: it passes its check, and the slot is VALID (08 R149). -/
theorem finishCommit_took (slot : Nat) (s : State) : finishCommit slot true s
    = nvFinish (some slot) true none
        (setDirectory slot s.store.buffer.entry (setContent slot s.store.buffer.written s)) := by
  simp only [finishCommit, SlotContent.found, if_true, Image.checked_written]
  rfl

theorem finishCommit_failed (slot : Nat) (s : State) : finishCommit slot false s
    = nvFinish (some slot) false (some slot) (corruptSlot slot .broken s) := rfl

end

/-- Settles O59: each completion by what the memory took or gave back. -/
theorem writesAndProtectComplete : Obligations.WritesAndProtectComplete := by
  refine ⟨fun s slot live => ⟨fun runs => ⟨?_, ?_⟩, fun runs => ⟨?_, ?_⟩⟩,
    fun s back live => ⟨fun slot runs => ?_, fun runs => ?_⟩⟩
  · rw [exec_commitDone live runs, finishCommit_took, nvFinish_clean]
    rfl
  · rw [exec_commitDone live runs, finishCommit_failed, nvFinish_fault]
    rfl
  · exact exec_eraseDone live runs true
  · exact exec_eraseDone live runs false
  · exact exec_protectDone live runs back
  · exact exec_clearProtectDone live runs back

/-! ### The completions of loads (08 R146, R159-R161) -/

section
variable {s : State} {slot : Nat}

theorem exec_editLoadDone (live : s.live = true) (runs : s.store.nvOp = some (.editLoad slot)) (intact : Bool) :
    exec (.editLoadDone intact) s = .next (finishEditLoad slot intact s) :=
  congrArg Host.Outcome.next (by rw [runs]; exact if_pos live)

theorem exec_activeLoadDone (live : s.live = true) (loading : s.load.active = .loading)
    (named : s.load.activeSlot = some slot) (intact : Bool) :
    exec (.activeLoadDone intact) s = .next (finishActive slot intact s) :=
  congrArg Host.Outcome.next (by rw [loading, named]; exact if_pos live)

theorem exec_stagedLoadDone (live : s.live = true) (loading : s.load.staged = .loading)
    (named : s.load.stagedSlot = some slot) (intact : Bool) :
    exec (.stagedLoadDone intact) s = .next (finishStaged slot intact s) :=
  congrArg Host.Outcome.next (by rw [loading, named]; exact if_pos live)

/-- Unchanged memory with the image's own check passes (08 R138). -/
theorem checked_intact {img : Image} (sound : s.content slot = .image img (imageCheck img)) :
    ((s.content slot).found true).checked = some img := by
  simp [sound, SlotContent.found, SlotContent.checked]

end

/-- Settles O60: each load by the check of its slot. -/
theorem loadsCompleteOrFail : Obligations.LoadsCompleteOrFail := by
  refine ⟨fun s slot img live sound => ⟨fun runs => ?_, fun loading named => ?_, fun loading named => ?_⟩,
    fun s slot live => ⟨fun runs => ?_, fun loading named => ?_, fun loading named => ?_⟩⟩
  · rw [exec_editLoadDone live runs]
    simp only [finishEditLoad, checked_intact sound, nvFinish_clean]
    rfl
  · rw [exec_activeLoadDone live loading named]
    simp only [finishActive, checked_intact sound]
    rfl
  · rw [exec_stagedLoadDone live loading named]
    simp only [finishStaged, checked_intact sound, stageReady, swapTables, named]
    rfl
  · exact exec_editLoadDone live runs false
  · exact exec_activeLoadDone live loading named false
  · exact exec_stagedLoadDone live loading named false

end Sys2Proof.Machine

/-! The sample link through one step: the law of the inserted frames, by what every row does to the counters, the lane and
the queue (09 R173-R176). -/

namespace Sys2Proof.Machine

section
variable {s t u : State}

/-! ### What the law reads -/

/-- A state with the same transmitter and the controller port in the same state balances too. -/
theorem LedgerBalances.unchanged (h : LedgerBalances s) (tx : t.tx = s.tx := by simp) (ctl : t.ctl = s.ctl := by simp) :
    LedgerBalances t := ledger_congr h tx (by rw [ctl])

/-- A guarded event takes place or does nothing. -/
theorem LedgerBalances.guarded {b : Bool} (h : LedgerBalances s) (hu : LedgerBalances u) :
    LedgerBalances (if b = true then u else s) := by
  split
  case isTrue => exact hu
  case isFalse => exact h

/-! ### The frames and the ports (09 R162, R165, R166, R176) -/

theorem ledger_receiveForward (h : LedgerBalances s) (f : Frame) : LedgerBalances (receiveForward f s) := by
  unfold receiveForward
  split
  · exact ledger_receive h _ _
  · split
    · split
      · exact h.unchanged
      · exact ledger_forward h f
    · exact h

/-- Training moves a port that is not UP, at which nothing waits (09 R162, R173). -/
theorem ledger_movePort (h : LedgerBalances s) (p : Port) {was becomes : PortState} (not_up : was ≠ .up) :
    LedgerBalances (movePort p was becomes s) := by
  unfold movePort
  split
  case isTrue stands =>
    simp only [Bool.and_eq_true, decide_eq_true_eq] at stands
    obtain ⟨-, rfl⟩ := stands
    refine ledger_setPort h p becomes ?_
    rintro rfl
    exact not_up
  case isFalse => exact h

/-- An owed DROP frame is created as the controller port comes UP, and joins the queue (09 R176). -/
theorem ledger_portUp (h : LedgerBalances s) (p : Port) : LedgerBalances (portUp p s) := by
  cases p with
  | sensor => exact h.unchanged rfl rfl
  | controller =>
    obtain ⟨balance, room, -⟩ := h
    exact ledger_reportDrop ⟨balance, room, fun down => absurd rfl down⟩

theorem ledger_loseSensor (h : LedgerBalances s) (arriving passing : Bool) :
    LedgerBalances (loseSensor arriving passing s) := by
  rw [loseSensor_eq]
  exact ledger_sensorDown (h.unchanged rfl rfl)

theorem ledger_abortDisarm (h : LedgerBalances s) : LedgerBalances (abortDisarm s) :=
  ledger_enterIdle (ledger_abortBody h _ _)

/-! ### The ends of the store's operations, which raise causes (08 R146, R149, R150, R154, R155, R159, R160) -/

theorem ledger_stopWrite (h : LedgerBalances s) : LedgerBalances (stopWrite s) := by
  unfold stopWrite
  split
  case h_1 | h_2 => exact ledger_nvFinish h.unchanged _ _ _
  case h_3 | h_4 => exact ledger_nvFinish h _ _ _
  all_goals exact h

theorem ledger_finishCommit (h : LedgerBalances s) (slot : Nat) (took : Bool) :
    LedgerBalances (finishCommit slot took s) := by
  simp only [finishCommit]
  split <;> exact ledger_nvFinish h.unchanged _ _ _

theorem ledger_finishErase (h : LedgerBalances s) (slot : Nat) (took : Bool) :
    LedgerBalances (finishErase slot took s) := by
  unfold finishErase
  split <;> exact ledger_nvFinish h.unchanged _ _ _

theorem ledger_finishProtect (h : LedgerBalances s) (slot : Option Nat) (intended readBack : BitVec 24) :
    LedgerBalances (finishProtect slot intended readBack s) := by
  have readIn : LedgerBalances { s with store := { s.store with protect := readBack } } := h.unchanged
  exact ledger_nvFinish readIn _ _ _

theorem ledger_finishEditLoad (h : LedgerBalances s) (slot : Nat) (intact : Bool) :
    LedgerBalances (finishEditLoad slot intact s) := by
  simp only [finishEditLoad]
  split <;> exact ledger_nvFinish h.unchanged _ _ _

theorem ledger_finishActive (h : LedgerBalances s) (slot : Nat) (intact : Bool) :
    LedgerBalances (finishActive slot intact s) := by
  simp only [finishActive]
  split
  · exact h.unchanged
  · exact ledger_raise h.unchanged _ _

theorem ledger_finishStaged (h : LedgerBalances s) (slot : Nat) (intact : Bool) :
    LedgerBalances (finishStaged slot intact s) := by
  simp only [finishStaged]
  split
  · exact h.unchanged
  · exact ledger_raise h.unchanged _ _

/-! ### The owners that close a stroke or start the ledger anew (02 R47; 10 R191) -/

theorem ledger_disarm (h : LedgerBalances s) : LedgerBalances (ownDisarm () s).2 := by
  unfold ownDisarm
  split
  case h_1 => exact h
  case h_2 | h_3 | h_4 => exact ledger_enterIdle h
  all_goals exact ledger_abortDisarm h

theorem ledger_resetUnit (h : LedgerBalances s) : LedgerBalances (ownResetUnit () s).2 := by
  unfold ownResetUnit
  split
  · exact h
  · split
    · exact h
    · exact ledger_softReset h

/-! ### Every row -/

/-- Each row creates frames or moves them to the lane, to sent or to dropped, starts the ledger anew, or leaves it. -/
theorem exec_keeps_ledger (i : Instr) (h : LedgerBalances s) : ∀ t, exec i s = .next t → LedgerBalances t := by
  cases i with
  | powerOn nrst wp locken addr =>
    refine of_exec_next rfl ?_
    split
    · exact h
    · exact ledger_powerUp locken addr _
  | nrstRise locken addr => exact of_exec_next rfl (h.guarded (ledger_powerUp locken addr _))
  | powerOff =>
    have lost := ledger_powerUp s.lockenHigh s.unitAddr (cutOperation s)
    exact of_exec_next rfl (h.guarded (lost.unchanged rfl rfl))
  | nrstLow | powerOnScanDone changed | controllerPortBadFrame f =>
    exact of_exec_next rfl (h.guarded (ledger_congr h rfl rfl))
  | sampleFrame body check => exact of_exec_next rfl (ledger_receive h body check)
  | tooLong body check | captureFreeze body check => exact of_exec_next rfl (h.guarded (ledger_receive h body check))
  | forwardFrame f => exact of_exec_next rfl (ledger_receiveForward h f)
  | commandFrame body check => exact of_exec_next rfl (ledger_return h _)
  | returnFrame f => exact of_exec_next rfl (ledger_return h f)
  | transmitFrame => exact of_exec_next rfl (ledger_begin h)
  | frameSent => exact of_exec_next rfl (ledger_end h)
  | dropReport => exact of_exec_next rfl (h.guarded (ledger_reportDrop h))
  | idlePatternSeen p | trainingLost p => exact of_exec_next rfl (ledger_movePort h p (by decide))
  | trainingComplete p => exact of_exec_next rfl (h.guarded (ledger_portUp h p))
  | sensorPortLoss arriving passing => exact of_exec_next rfl (h.guarded (ledger_loseSensor h arriving passing))
  | controllerPortLoss arriving => exact of_exec_next rfl (h.guarded (ledger_loseController h arriving))
  | stall => exact of_exec_next rfl (h.guarded (ledger_abort h _ _))
  | commitDone took =>
    refine of_exec_next rfl ?_
    split
    · exact h.guarded (ledger_finishCommit h _ took)
    · exact h
  | eraseDone took =>
    refine of_exec_next rfl ?_
    split
    · exact h.guarded (ledger_finishErase h _ took)
    · exact h
  | protectDone readBack | clearProtectDone readBack =>
    refine of_exec_next rfl ?_
    split
    · exact h.guarded (ledger_finishProtect h _ _ readBack)
    · exact h
  | editLoadDone intact =>
    refine of_exec_next rfl ?_
    split
    · exact h.guarded (ledger_finishEditLoad h _ intact)
    · exact h
  | activeLoadDone intact =>
    refine of_exec_next rfl ?_
    split
    · exact h.guarded (ledger_finishActive h _ intact)
    · exact h
  | stagedLoadDone intact =>
    refine of_exec_next rfl ?_
    split
    · exact h.guarded (ledger_finishStaged h _ intact)
    · exact h
  | wpFall =>
    have lowered : LedgerBalances { s with wpHigh := false } := h.unchanged
    exact of_exec_next rfl (h.guarded (lowered.guarded (ledger_stopWrite lowered).unchanged))
  | wpRise => exact of_exec_next rfl h.unchanged
  | disarm => exact of_exec_next rfl (ledger_command h fun _ => ledger_disarm h)
  | captureNow => exact of_exec_next rfl (ledger_command h fun _ => ledger_capture h)
  | resetUnit => exact of_exec_next rfl (ledger_command h fun _ => ledger_resetUnit h)
  | arm | resume | clearStop | editClear | editLoad | setHeader | putGroup | putPins | setCounts | validate | commit
  | erase | readEdit | readDirectory | lockRange | lockTight | protect svc | clearProtect svc | select | readVerdicts
  | setTrigger | readTriggers | clearHits | releaseCapture | readCapture | readRecord | readPending | clearPending
  | readStatus | readIdent | getSetting | setSetting =>
    exact of_exec_next rfl (ledger_command h fun _ => h.unchanged)

end

/-- Settles O6: by what each row does to the counters, the lane and the queue. -/
theorem stepKeepsLedger : Obligations.StepKeepsLedger := by
  intro s t h hstep
  obtain rfl | ⟨i, rest, hexec⟩ := step_cases hstep
  · exact h
  · refine exec_keeps_ledger i ?_ t hexec
    exact h.unchanged rfl rfl

end Sys2Proof.Machine

/-! The frames that the link receives, and the training of its ports (09 R162-R167, R169, R171, R172, R176). -/

namespace Sys2Proof.Machine

/-! ### A frame at the sensor port (09 R163-R167, R169) -/

section
variable {s : State} {body : List Byte} {check : Word16} {f : Frame}

/-- A sample is stale when it is 128 or more beyond the expected number (R167). -/
theorem gapOf_eq_none_iff {expected : Option Byte} {seq : Byte} : gapOf expected seq = none
    ↔ ∃ e, expected = some e ∧ 128 ≤ (seq - e).toNat := by
  cases expected with
  | none => simp [gapOf]
  | some e =>
    simp only [gapOf, ite_eq_right_iff, reduceCtorEq, imp_false, Option.some.injEq, exists_eq_left']
    omega

theorem receiveSample_of_not_up (down : s.sns.port ≠ .up) : receiveSample body check s = s :=
  if_neg (by simp [down])

theorem receiveSample_of_bad (live : s.live = true) (up : s.sns.port = .up)
    (bad : badForward { cls := 0x01#8, body := body, check := check } = true) :
    receiveSample body check s = countSensorBad s :=
  (if_pos (by simp [live, up])).trans (if_pos bad)

theorem receiveSample_of_stale (live : s.live = true) (up : s.sns.port = .up)
    (good : badForward { cls := 0x01#8, body := body, check := check } = false)
    (stale : gapOf s.sns.expected (readSample body).seq = none) :
    receiveSample body check s = staleSample body check s := by
  simp [receiveSample, live, up, good, stale]

/-- A frame of another class: counted when it is bad, else forwarded (R164, R165). -/
theorem receiveForward_of_other (live : s.live = true) (up : s.sns.port = .up) (other : f.cls ≠ 0x01#8) :
    receiveForward f s = if badForward f = true then countSensorBad s else forward f s :=
  (if_neg other).trans (if_pos (by simp [live, up]))

theorem receiveForward_of_not_up (down : s.sns.port ≠ .up) : receiveForward f s = s := by
  unfold receiveForward
  split
  · exact receiveSample_of_not_up down
  · exact if_neg (by simp [down])

end

/-- Settles O40: a bad frame is counted, and a stale one is out of the order that the expected number gives. -/
theorem badAndStaleSamples : Obligations.BadAndStaleSamples := by
  refine fun s body check live up => ⟨fun bad => ?_, fun e good expected far => ?_⟩
  · exact congrArg Host.Outcome.next (receiveSample_of_bad live up bad)
  · have stale : gapOf s.sns.expected (readSample body).seq = none := gapOf_eq_none_iff.mpr ⟨e, expected, far⟩
    exact congrArg Host.Outcome.next (receiveSample_of_stale live up good stale)

/-! ### A frame at the controller port (09 R163-R165, R171, R172) -/

section
variable {s : State} {f : Frame}

/-- At a port that is UP a frame is checked, and a good one is routed by its class (R163-R165). -/
theorem receiveReturn_of_up (live : s.live = true) (up : s.ctl.port = .up) : receiveReturn f s
    = if badReturn f = true then countControllerBad s
      else if f.cls = 0x02#8 then routeCommand f s else passThrough f s :=
  if_pos (by simp [live, up])

theorem receiveReturn_of_not_up (down : s.ctl.port ≠ .up) : receiveReturn f s = s :=
  if_neg (by simp [down])

/-- A frame of another class: counted when it is bad, else passed through. -/
theorem receiveReturn_of_other (live : s.live = true) (up : s.ctl.port = .up) (other : f.cls ≠ 0x02#8) :
    receiveReturn f s = if badReturn f = true then countControllerBad s else passThrough f s := by
  rw [receiveReturn_of_up live up, if_neg other]

/-- A good COMMAND frame goes by its destination (R171). -/
theorem receiveReturn_of_command (live : s.live = true) (up : s.ctl.port = .up) (good : badReturn f = false)
    (command : f.cls = 0x02#8) : receiveReturn f s = routeCommand f s := by
  rw [receiveReturn_of_up live up, good, if_pos command]
  rfl

/-- Broadcast: passed through and consumed. -/
theorem routeCommand_broadcast (broadcast : commandDest f.body = 63#6) :
    routeCommand f s = consume (readCommand f.body) (passThrough f s) := if_pos broadcast

/-- For this unit, under its mask: consumed. -/
theorem routeCommand_matched (single : commandDest f.body ≠ 63#6)
    (matched : commandDest f.body &&& s.dec.unitMask = s.unitAddr &&& s.dec.unitMask) :
    routeCommand f s = consume (readCommand f.body) s := (if_neg single).trans (if_pos matched)

/-- For another unit: passed through. -/
theorem routeCommand_other (single : commandDest f.body ≠ 63#6)
    (other : commandDest f.body &&& s.dec.unitMask ≠ s.unitAddr &&& s.dec.unitMask) :
    routeCommand f s = passThrough f s := (if_neg single).trans (if_neg other)

theorem exec_controllerPortBadFrame (live : s.live = true) (up : s.ctl.port = .up) (bad : badReturn f = true) :
    exec (.controllerPortBadFrame f) s = .next (countControllerBad s) :=
  congrArg Host.Outcome.next (if_pos (by simp [live, up, bad]))

end

/-- Settles O54: each lane at a port that is UP by the frame's check, and at one that is not. -/
theorem otherFramesPass : Obligations.OtherFramesPass := by
  refine fun s f live => ⟨fun up other => ?_, fun up other => ?_, fun up bad => ?_, fun down => ⟨?_, ?_⟩,
    fun down => ⟨?_, ?_⟩⟩
  · exact congrArg Host.Outcome.next (receiveForward_of_other live up other)
  · exact congrArg Host.Outcome.next (receiveReturn_of_other live up other)
  · exact exec_controllerPortBadFrame live up bad
  · exact congrArg Host.Outcome.next (receiveForward_of_not_up down)
  · exact congrArg Host.Outcome.next (receiveSample_of_not_up down)
  · exact congrArg Host.Outcome.next (receiveReturn_of_not_up down)
  · exact congrArg Host.Outcome.next (receiveReturn_of_not_up down)

/-- Settles O55: a good COMMAND frame is routed by its destination, and consumed by the room of the wait list. -/
theorem commandFrameRouting : Obligations.CommandFrameRouting := by
  intro s body check live up f pass take good
  refine congrArg Host.Outcome.next ((receiveReturn_of_command live up good rfl).trans ?_)
  split
  case isTrue broadcast => exact routeCommand_broadcast broadcast
  case isFalse single =>
    split
    case isTrue matched => exact routeCommand_matched single matched
    case isFalse other => exact routeCommand_other single other

/-! ### The ports (09 R162, R166, R176) -/

section
variable {s : State} {p : Port}

theorem exec_idlePatternSeen (live : s.live = true) (down : s.portState p = .down) :
    exec (.idlePatternSeen p) s = .next (setPort p .training s) :=
  congrArg Host.Outcome.next (if_pos (by simp [live, down]))

theorem exec_trainingLost (live : s.live = true) (training : s.portState p = .training) :
    exec (.trainingLost p) s = .next (setPort p .down s) :=
  congrArg Host.Outcome.next (if_pos (by simp [live, training]))

theorem exec_trainingComplete (live : s.live = true) (training : s.portState p = .training) :
    exec (.trainingComplete p) s = .next (portUp p s) :=
  congrArg Host.Outcome.next (if_pos (by simp [live, training]))

/-- With no DROP frame owed the controller port comes UP and no more (07 R132). -/
theorem portUp_controller_nothing (owed : s.evt.dropOwed = none) :
    portUp .controller s = { s with ctl := { s.ctl with port := .up } } :=
  reportDrop_nothing (.inl owed)

/-- An owed DROP frame joins a queue that has room as the controller port comes UP, and stays owed otherwise (R176;
log 18). -/
theorem portUp_controller_owed {d : DropItems} (owed : s.evt.dropOwed = some d) : portUp .controller s
    = if s.tx.queue.length < 32 then
        { s with
          ctl := { s.ctl with port := .up }
          tx := { s.tx with
            queue := s.tx.queue ++ [.event .drop d.strokeNumber d.depth (.count s.tx.drop)]
            created := s.tx.created + 1 }
          evt := { s.evt with dropOwed := none } }
      else { s with ctl := { s.ctl with port := .up } } := by
  split
  case isTrue room => exact reportDrop_queued owed (State.queueTakes_of_room rfl room)
  case isFalse full => exact reportDrop_nothing (.inr (State.queueTakes_of_no_room (.inr (Nat.le_of_not_lt full))))

end

/-- Settles O57: each move of R162's table, and the controller port coming UP by the report that it owes. -/
theorem portsTrain : Obligations.PortsTrain := by
  refine fun s live => ⟨fun down => ?_, fun down => ?_, fun training => ⟨?_, ?_⟩, fun training => ⟨?_, ?_⟩⟩
  · exact exec_idlePatternSeen live down
  · exact exec_idlePatternSeen live down
  · exact exec_trainingLost live training
  · exact exec_trainingComplete live training
  · exact exec_trainingLost live training
  · rw [exec_trainingComplete (p := .controller) live training]
    cases owed : s.evt.dropOwed with
    | none => exact congrArg Host.Outcome.next (portUp_controller_nothing owed)
    | some d => exact congrArg Host.Outcome.next (portUp_controller_owed owed)

end Sys2Proof.Machine

/-! Every row goes on: no row stops the part, and none touches the queue (log 1, log 4). -/

namespace Sys2Proof.Machine

section
variable {s u : State}

theorem runCommand_pending {α : Type} {n : Nat} {always : Bool} {parse : List Byte → Option α}
    {owner : α → State → Reply × State} (h : ∀ a, (owner a s).2.pending = s.pending) :
    (runCommand n always parse owner s).pending = s.pending :=
  runCommand_cases (fun t => t.pending = s.pending) rfl (fun c r t ht => by simpa using ht) h

/-- An event that the state does not admit changes nothing (log 4). -/
theorem guarded_pending {b : Bool} (h : u.pending = s.pending) : (if b = true then u else s).pending = s.pending := by
  split
  · exact h
  · rfl

/-- Each row answers a next state, by the operations it calls, none of which touches the queue. -/
theorem exec_goes_on (i : Instr) (s : State) : ∃ t, exec i s = .next t ∧ t.pending = s.pending := by
  cases i with
  | powerOn nrst wp locken addr =>
    refine ⟨_, rfl, ?_⟩
    split <;> rfl
  | nrstLow | nrstRise locken addr | powerOnScanDone changed | powerOff | dropReport | trainingComplete p
  | sensorPortLoss arriving passing | controllerPortLoss arriving | tooLong body check | captureFreeze body check
  | controllerPortBadFrame f =>
    exact ⟨_, rfl, guarded_pending (by simp)⟩
  | sampleFrame body check | forwardFrame f | commandFrame body check | returnFrame f | transmitFrame | frameSent
  | idlePatternSeen p | trainingLost p | stall =>
    exact ⟨_, rfl, by simp⟩
  | commitDone took | eraseDone took | protectDone readBack | clearProtectDone readBack | editLoadDone intact
  | activeLoadDone intact | stagedLoadDone intact =>
    refine ⟨_, rfl, ?_⟩
    split
    · exact guarded_pending (by simp)
    · rfl
  | wpFall =>
    refine ⟨_, rfl, guarded_pending ?_⟩
    dsimp only
    split
    · simp
    · rfl
  | wpRise => exact ⟨_, rfl, rfl⟩
  | arm | disarm | resume | clearStop | editClear | editLoad | setHeader | putGroup | putPins | setCounts | validate
  | commit | erase | readEdit | readDirectory | lockRange | lockTight | protect svc | clearProtect svc | select
  | readVerdicts | setTrigger | readTriggers | clearHits | captureNow | releaseCapture | readCapture | readRecord
  | readPending | clearPending | readStatus | readIdent | getSetting | setSetting | resetUnit =>
    exact ⟨_, rfl, runCommand_pending fun _ => by simp⟩

end

/-- Settles O2: by what each row calls. -/
theorem everyCommandGoesOn : Obligations.EveryCommandGoesOn := exec_goes_on

end Sys2Proof.Machine

/-! The command decoder's frame of every command: the general checks, the response, and the taking of the next command (09
R172; 10 R182, R184, R185). -/

namespace Sys2Proof.Machine

/-! ### The general checks (10 R184) -/

/-- Row `i` is the taking of command `n` by a parser and an owner: `argumentsFit` says what the parser reads, and the
commands taken while the scan runs too are READ STATUS and READ IDENT (10 R184). -/
def TakesCommand (i : Instr) (n : Nat) : Prop :=
  ∃ (α : Type) (parse : List Byte → Option α) (owner : α → State → Reply × State),
    (∀ s, exec i s = .next (runCommand n (decide (n = 31 ∨ n = 32)) parse owner s))
    ∧ ∀ args, argumentsFit n args = (parse args).isSome

theorem takesCommand_of_commandNumber {i : Instr} {n : Nat} (h : i.commandNumber = some n) : TakesCommand i n := by
  cases i
  case arm | disarm | resume | clearStop | editClear | editLoad | setHeader | putGroup | putPins | setCounts | validate
    | commit | erase | readEdit | readDirectory | lockRange | lockTight | protect | clearProtect | select
    | readVerdicts | setTrigger | readTriggers | clearHits | captureNow | releaseCapture | readCapture | readRecord
    | readPending | clearPending | readStatus | readIdent | getSetting | setSetting | resetUnit =>
    obtain rfl := Option.some.inj h
    exact ⟨_, _, _, fun _ => rfl, fun _ => rfl⟩
  all_goals exact nomatch h

/-- Settles O12: every row that is a command runs the same two checks before its owner. -/
theorem generalChecksRefuse : Obligations.GeneralChecksRefuse := by
  intro i n c s hi holds
  obtain ⟨α, parse, owner, row, fits⟩ := takesCommand_of_commandNumber hi
  rw [fits, row]
  refine ⟨fun unfit => ?_, fun fit scan not31 not32 => ?_⟩
  · rw [runCommand_range holds (Option.isSome_eq_false_iff.mp unfit |> Option.isNone_iff_eq_none.mp)]
  · obtain ⟨a, ha⟩ := Option.isSome_iff_exists.mp fit
    have waits : decide (n = 31 ∨ n = 32) = false := decide_eq_false (by omega)
    rw [waits, runCommand_busy holds ha scan]

/-! ### The response and the next command (10 R182, R185) -/

section
variable {c : Command} {rest : List Command} {s : State}

theorem respond_dec (c : Command) (r : Reply) (d : DecState) (s : State) :
    respond c r { s with dec := d } = { respond c r s with dec := d } := by
  unfold respond
  cases takes : s.queueTakes with
  | true => rw [handOver_queued takes]; exact handOver_queued (s := { s with dec := d }) takes _
  | false => rw [handOver_discarded takes]; exact handOver_discarded (s := { s with dec := d }) takes _

theorem respond_waitList (c : Command) (r : Reply) (w : List Command) (s : State) :
    respond c r { s with ctl := { s.ctl with waitList := w } }
      = { respond c r s with ctl := { (respond c r s).ctl with waitList := w } } := by
  unfold respond
  cases takes : s.queueTakes with
  | true =>
    rw [handOver_queued takes]
    exact handOver_queued (s := { s with ctl := { s.ctl with waitList := w } }) takes _
  | false =>
    rw [handOver_discarded takes]
    exact handOver_discarded (s := { s with ctl := { s.ctl with waitList := w } }) takes _

/-- The taking of the next command sets the wait list, so it does not matter what stands there before. -/
theorem promote_waitList (cs w : List Command) (s : State) :
    promote cs { s with ctl := { s.ctl with waitList := w } } = promote cs s := by
  induction cs generalizing s with
  | nil => rfl
  | cons c cs ih =>
    unfold promote
    split
    · rfl
    · rw [respond_waitList, ih]

theorem releaseHand_eq (s : State) :
    releaseHand s = promote s.ctl.waitList { s with dec := { s.dec with hand := none } } := rfl

theorem Command.known_iff (c : Command) : c.known = true ↔ 1 ≤ c.number.toNat ∧ c.number.toNat ≤ 35 := by
  simp [Command.known]

theorem releaseHand_known (waiting : s.ctl.waitList = c :: rest) (known : c.known = true) :
    releaseHand s = { s with dec := { s.dec with hand := some c }, ctl := { s.ctl with waitList := rest } } := by
  rw [releaseHand_eq, waiting, promote, if_pos known]

/-- A command of an unknown number is answered as it is taken, and the next follows (log 3). -/
theorem releaseHand_unknown (waiting : s.ctl.waitList = c :: rest) (unknown : ¬ c.known = true) :
    releaseHand s = releaseHand { respond c { result := .unknown } s with ctl := { s.ctl with waitList := rest } } := by
  calc releaseHand s
      = promote rest { respond c { result := .unknown } s with dec := { s.dec with hand := none } } := by
        rw [releaseHand_eq, waiting, promote, if_neg unknown, respond_dec]
    _ = promote rest { respond c { result := .unknown } s with
          dec := { s.dec with hand := none }, ctl := { s.ctl with waitList := rest } } := by
        rw [← promote_waitList rest rest]; simp
    _ = releaseHand { respond c { result := .unknown } s with ctl := { s.ctl with waitList := rest } } := by
        rw [releaseHand_eq]; simp

end

/-- Settles O14: by what stands at the head of the wait list. -/
theorem answerThenNextCommand : Obligations.AnswerThenNextCommand := by
  refine fun c r s => ⟨rfl, fun empty => ?_, fun n rest waiting low high => ?_, fun n rest waiting out => ?_⟩
  · rw [releaseHand_eq, empty, promote]
  · exact releaseHand_known waiting (n.known_iff.mpr ⟨low, high⟩)
  · have unknown : ¬ n.known = true := by rw [n.known_iff]; omega
    exact releaseHand_unknown waiting unknown

end Sys2Proof.Machine

/-! The decoder's own commands: READ STATUS, READ IDENT, GET SETTING, SET SETTING and RESET UNIT (10 R186-R193). -/

namespace Sys2Proof.Machine

/-! ### READ STATUS and READ IDENT (10 R189, R190) -/

/-- A row of a command taken while the scan runs too ends in its owner's answer (10 R184). -/
theorem exec_of_holds {α : Type} {n : Nat} {parse : List Byte → Option α} {owner : α → State → Reply × State}
    {i : Instr} {c : Command} {s : State} {a : α} (row : exec i s = .next (runCommand n true parse owner s))
    (h : s.holds n c) (ha : parse c.args = some a) : exec i s = .next (answered c (owner a s).1 (owner a s).2) :=
  row.trans (congrArg Host.Outcome.next (runCommand_always h ha))

theorem beBytes_length (n v : Nat) : (beBytes n v).length = n := by
  induction n with
  | zero => rfl
  | succ n ih => rw [beBytes, List.length_cons, ih]

theorem flag_byte (b : Bool) : beBytes 1 (flag b) = [if b then 1 else 0] := by
  cases b <;> rfl

/-- A flag at the place of weight `k` of its byte. -/
theorem mul_flag (k : Nat) (b : Bool) : k * flag b = if b then k else 0 := by
  cases b
  · exact k.mul_zero
  · exact k.mul_one

theorem Tables.code_byte (t : Tables) :
    beBytes 1 t.code = [match t with | .absent => 0 | .loading => 1 | .ready _ => 2] := by
  cases t <;> rfl

theorem StrokeOutcome.code_byte (o : Option StrokeOutcome) :
    beBytes 1 (StrokeOutcome.code o)
      = [match o with | none => 0 | some .pass => 1 | some .fail => 2 | some .abort => 3] := by
  rcases o with _ | _ | _ | _ <;> rfl

theorem CaptureState.code_byte (k : CaptureState) :
    beBytes 1 k.code = [match k with | .idle => 0 | .counting => 1 | .frozen => 2] := by
  cases k <;> rfl

theorem statusBytes_length (s : State) : (statusBytes s).length = 21 := by
  simp only [statusBytes, slotByte, List.length_append, beBytes_length]

/-- Settles O32: the two owners answer and leave the state, and each item of status is one code or number in its bytes. -/
theorem statusAndIdentAnswer : Obligations.StatusAndIdentAnswer := by
  refine fun c s => ⟨fun h ha => ⟨?_, statusBytes_length s, ?_⟩, fun h ha => ?_⟩
  · rw [exec_of_holds rfl h (parseNone_nil ha), ownReadStatus]
  · simp only [statusBytes, mul_flag, Tables.code_byte, StrokeOutcome.code_byte, CaptureState.code_byte]
    rfl
  · rw [exec_of_holds rfl h (parseNone_nil ha), ownReadIdent, identBytes, flag_byte]
    rfl

/-! ### Settings (10 R186-R188) -/

/-- Settles O33: the owner answers what `settingValue` holds and leaves the state. -/
theorem getSettingAnswers : Obligations.GetSettingAnswers := by
  intro c s k h ha
  rw [exec_of_takes rfl h ha, ownGetSetting]
  rfl

theorem clampSetting_eq (k : Setting) (v : Nat) : clampSetting k v = (match k with
    | .unitMask => min v 63
    | .stallTimeout => min v 255
    | .strokeLimit => if v = 0 then 1 else min v 1023
    | .postCount => min v 511
    | .alarmMode | .stepMode | .stopOnFail | .annotation => if v = 0 then 0 else 1
    | .alarmMask | .eventMask => v % 524288) := by
  cases k
  case unitMask | stallTimeout | postCount => exact Nat.min_comm _ _
  case alarmMask | eventMask => rfl
  case strokeLimit | alarmMode | stepMode | stopOnFail | annotation =>
    simp only [clampSetting]
    split <;> omega

/-- The value applied is in the setting's range, so the setting holds it whole. -/
theorem settingValue_applySetting_self (k : Setting) (v : Nat) (s : State) :
    settingValue k (applySetting k (clampSetting k v) s) = clampSetting k v := by
  cases k
  case alarmMode | stepMode | stopOnFail | annotation =>
    rcases v with _ | v <;> rfl
  case unitMask | alarmMask | eventMask =>
    simp only [applySetting, settingValue, BitVec.toNat_ofNat, clampSetting]
    omega
  all_goals rfl

theorem settingValue_applySetting_of_ne {j k : Setting} (other : j ≠ k) (v : Nat) (s : State) :
    settingValue j (applySetting k v s) = settingValue j s := by
  cases k <;> cases j <;> try rfl
  all_goals exact absurd rfl other

theorem has_drop_ofNat {v : Nat} : CauseSet.has (BitVec.ofNat 19 v) .drop = v.testBit 17 :=
  (BitVec.getLsbD_ofNat 19 v 17).trans (Bool.true_and _)

/-- Removing DROP from the event-frame mask clears the owed flag (07 R132). -/
theorem applySetting_dropOwed (k : Setting) (v : Nat) (s : State) :
    (applySetting k v s).evt.dropOwed = if k = .eventMask ∧ v.testBit 17 = false then none else s.evt.dropOwed := by
  cases k
  case eventMask =>
    simp only [applySetting, has_drop_ofNat, true_and]
    cases v.testBit 17 <;> rfl
  all_goals rfl

theorem applySetting_pending (k : Setting) (v : Nat) (s : State) :
    (applySetting k v s).evt.pending = s.evt.pending := by
  cases k <;> rfl

theorem applySetting_hand (k : Setting) (v : Nat) (s : State) : (applySetting k v s).dec.hand = s.dec.hand := by
  cases k <;> rfl

theorem applySetting_blocks (k : Setting) (v : Nat) (s : State) :
    applySetting k v s = { s with dec := (applySetting k v s).dec, evt := (applySetting k v s).evt } := by
  cases k <;> rfl

/-- One byte says whether the value was clamped (10 R187). -/
theorem clampByte_eq (a v : Nat) : beBytes 1 (flag (decide (a ≠ v))) = [if a = v then 0 else 1] := by
  by_cases h : a = v <;> simp [h, beBytes_one, flag]

/-- Settles O34: by the value applied, the setting that takes it, and what the change leaves. -/
theorem setSettingClampsAndApplies : Obligations.SetSettingClampsAndApplies := by
  intro c s k v h ha
  refine ⟨clampSetting k v, applySetting k (clampSetting k v) s, ?_, settingValue_applySetting_self k v s,
    fun j other => settingValue_applySetting_of_ne other _ s, clampSetting_eq k v, applySetting_pending k _ s,
    applySetting_dropOwed k _ s, applySetting_blocks k _ s, applySetting_hand k _ s⟩
  rw [exec_of_takes rfl h ha, ← clampByte_eq]
  rfl

/-! ### RESET UNIT (10 R191-R193) -/

section
variable {c : Command} {s : State}

theorem exec_resetUnit_of_takes (h : s.takes 35 c) (ha : c.args = []) :
    exec .resetUnit s = .next (answered c (ownResetUnit () s).1 (ownResetUnit () s).2) :=
  exec_of_takes rfl h (parseNone_nil ha)

/-- The queue is emptied before the response is handed over, so the response stands first in it (10 R192). -/
theorem respond_softReset_queue (up : s.ctl.port = .up) (r : Reply) :
    (respond c r (softReset s)).tx.queue = [.response c.tag c.number r.result r.data] := by
  rw [respond, handOver_queued (s := softReset s) (State.queueTakes_of_room up (Nat.succ_pos 31))]
  rfl

theorem softReset_alarm (s : State) : (softReset s).alarm = false := by simp [State.alarm, softReset]

theorem settingValue_softReset (k : Setting) (s : State) : settingValue k (softReset s) = settingValue k State.reset := by
  cases k <;> rfl

end

/-- Settles O35: by the owner's two refusals, and the power-on values of the soft reset. -/
theorem resetUnitResets : Obligations.ResetUnitResets := by
  intro c s h ha
  rw [exec_resetUnit_of_takes h ha]
  refine ⟨fun running => ?_, fun idle nv => ?_, fun idle nv => ?_, fun up => respond_softReset_queue up _, rfl, rfl, rfl, rfl,
    rfl, rfl, rfl, rfl, rfl, rfl, rfl, rfl, rfl, rfl, rfl, rfl, rfl, softReset_alarm s, fun k => settingValue_softReset k s⟩
  · simp [ownResetUnit, running, refusedWith]
  · simp [ownResetUnit, idle, nv, refusedWith]
  · simp [ownResetUnit, idle, nv, okReply]

end Sys2Proof.Machine

/-! The step in equations, one per form of the queue (log 1). -/

namespace Sys2Proof.Machine

theorem step_of_pending_cons {c : Instr} {rest : List Instr} {s : State} (front : s.pending = c :: rest) :
    step s = exec c { s with pending := rest } := by
  rw [step, front]

theorem step_of_pending_nil {s : State} (empty : s.pending = []) : step s = .next s := by
  rw [step, empty]

/-- Settles O1: by the two forms of the queue. -/
theorem stepRunsFrontCommand : Obligations.StepRunsFrontCommand :=
  ⟨fun _ _ _ front => step_of_pending_cons front, fun _ empty => step_of_pending_nil empty⟩

end Sys2Proof.Machine
